-- ==== Sys2Proof/Word.lean ====
section
/-! DEFINITION. The byte, the frame as its characters, and indexed tables of a fixed size. -/

namespace Sys2Proof

/-- One character of a frame (8 data bits, R1). -/
abbrev Byte := BitVec 8

/-- A frame as the characters received or sent, destination first and check last (section 1.1). -/
abbrev Frame := List Byte

/-- `v` with `x` at place `i`. -/
def upd {α : Type} {n : Nat} (v : Vector α n) (i : Fin n) (x : α) : Vector α n := v.set i.val x i.isLt

/-- Reading a table after a write: the written place holds the value, every other place is as before. -/
theorem upd_getElem {α : Type} {n : Nat} (v : Vector α n) (i : Fin n) (x : α) (j : Nat) (hj : j < n) :
    (upd v i x)[j] = if i.val = j then x else v[j] := by
  simp [upd, Vector.getElem_set]

@[simp] theorem upd_getElem_self {α : Type} {n : Nat} (v : Vector α n) (i : Fin n) (x : α) :
    (upd v i x)[i.val] = x := by
  simp [upd_getElem]

theorem upd_getElem_ne {α : Type} {n : Nat} (v : Vector α n) {i j : Fin n} (x : α) (h : i ≠ j) :
    (upd v i x)[j.val] = v[j.val] := by
  have hij : i.val ≠ j.val := fun e => h (Fin.ext e)
  simp [upd_getElem, hij]

end Sys2Proof
end

