-- ==== Sys2Proof/Syntax.lean ====
section
/-! DEFINITION. The commands of the part: one constructor per row of spec/opcode_table.json, in the table's order. -/

namespace Sys2Proof

/-- One of the two inputs of a meter channel (R39). -/
inductive MeterInput where
  | a
  | b
deriving DecidableEq, Repr

/-- What PROVER_RAW_INPUT_CHANGE reports (R51): a new raw level of the detector input, or that its filter time
has run at a low level, so that the filtered level falls. -/
inductive ProverChange where
  | raw (high : Bool)
  | filteredFall
deriving DecidableEq, Repr

/-- The steps of the part. A frame event carries the characters received and whether any of them had a framing
error; an event of one numbered object carries its number; a management request carries nothing, because it is
the frame at the head of the site receive buffer (R172). -/
inductive Instr where
  | siteFrameEnd (chars : Frame) (framingError : Bool)
  | siteFrameRouted
  | fieldFrameEnd (chars : Frame) (framingError : Bool)
  | fieldFrameTaken
  | siteFrameSent
  | eventMoved
  | segmentGrant
  | forwardFrameSent
  | pollFrameSent
  | replyWindowTimeout
  | entryDue (entry : Fin 32)
  | stationDataStale (entry : Fin 32)
  | forwardFrameAged
  | lrqRise
  | lrqFall
  | loanLimitReached
  | recallAgeReached (entry : Fin 32)
  | recallTimeout
  | deliveryAnswerSend
  | meterCount (channel : Fin 8) (input : MeterInput)
  | meterPhaseError (channel : Fin 8)
  | rateWindowClose (channel : Fin 8)
  | creepWindowBoundary
  | proverEdge
  | authTimerExpiry (point : Fin 8)
  | settleEnd (point : Fin 8)
  | panelStatusTimer (point : Fin 8)
  | pumpRunSecond (pump : Fin 4)
  | suspendTimerExpiry (slot : Fin 4)
  | spillInputChange (input : Fin 8) (high : Bool)
  | spillDebounceExpiry (input : Fin 8)
  | estopLoopChange (loop : Fin 2) (isOpen : Bool)
  | estopTimerExpiry (loop : Fin 2)
  | hornPulseToggle
  | linkSilenceExpiry
  | wallClockTick
  | powerOn
  | lineReset
  | softResetTaken (duration : Nat)
  | commission
  | decommission
  | timeSet
  | shiftClose
  | stockSet
  | reconcile
  | authorise
  | cancel
  | pointEnable
  | pointDisable
  | runLoad
  | runAppend
  | runClearPause
  | runResume
  | runRetry
  | runAbandon
  | journalRead
  | journalRelease
  | eventMask
  | eventPendingRead
  | countersRead
  | shutdownClear
  | siteStop
  | hornSilence
  | proverArm
  | proverRead
  | stationRearm
  | accountFind
  | accountRemove
  | softReset
  | statusRead
  | pollListWrite
  | productWrite
  | tankWrite
  | strappingWrite
  | accountsWrite
  | deliveryOrderWrite
  | spillInputWrite
  | sumpWrite
  | bayParameterWrite
  | runsWrite
  | tableWrite
  | fieldFrameStart
  | meterRawInputChange (channel : Fin 8) (input : MeterInput) (high : Bool)
  | filteredLevelChange (channel : Fin 8) (input : MeterInput)
  | proverRawInputChange (change : ProverChange)
deriving DecidableEq, Repr

end Sys2Proof
end

