-- ==== Sys2Proof/Config.lean ====
section
/-! DEFINITION. The fixed figures of the part (durations, sizes, bounds) and the one value the manual leaves open. -/

namespace Sys2Proof.Config

/-- Frames held by the site receive buffer (R6). -/
def siteRxSize : Nat := 4
/-- Frames held by the site transmit queue (R7). -/
def siteTxSize : Nat := 16
/-- Frames held by the field forward queue (R9). -/
def forwardSize : Nat := 8
/-- Events held by the event queue (R166). -/
def eventQueueSize : Nat := 32
/-- Journal records plus reserved places (R163). -/
def journalSize : Nat := 256
/-- The greatest record number (R162). -/
def lastRecordNumber : Nat := 4294967295
/-- The bound of every volume result (R55). -/
def volumeBound : Nat := 4000000000

/-- Microseconds in a millisecond. -/
def usPerMs : Nat := 1000
/-- Microseconds in a second. -/
def usPerSecond : Nat := 1000000
/-- Three character times on the bay segment, 120 us (R1). -/
def segmentIdleUs : Nat := 120
/-- Character time on the bay segment, 40 us (section 1.1). -/
def segmentCharUs : Nat := 40
/-- First-reply deadline, 20 ms (R21). -/
def firstReplyUs : Nat := 20000
/-- Inter-frame deadline of a burst, 5 ms (R21). -/
def nextReplyUs : Nat := 5000
/-- A DELIVERY_ANSWER begins within 5 ms (R33). -/
def answerUs : Nat := 5000
/-- Age at which a waiting forward frame is removed, 5 s (R11). -/
def forwardAgeMs : Nat := 5000
/-- Interval of JOIN_QUERY exchanges (R19). -/
def joinIntervalMs : Nat := 500
/-- Interval of POLL exchanges in SILENT (R19). -/
def silentIntervalMs : Nat := 5000
/-- Rate window (R45). -/
def rateWindowMs : Nat := 1000
/-- Creep window (R49). -/
def creepWindowMs : Nat := 30000
/-- Glitch filter of the prover detector input (R51). -/
def proverFilterUs : Nat := 20
/-- Quiet period of the settle (R94). -/
def settleQuietUs : Nat := 2000000
/-- Cap of the settle (R94). -/
def settleCapUs : Nat := 5000000
/-- Interval of PANEL_STATUS frames while flowing (R96). -/
def panelStatusUs : Nat := 2000000
/-- Phase errors that end a transaction (R89, R90). -/
def phaseErrorLimit : Nat := 16
/-- Suspend timer, 30 minutes (R106). -/
def suspendMs : Nat := 1800000
/-- Hold time of an emergency-stop loop (R149). -/
def loopUs : Nat := 10000
/-- Half period of the pulsed horn (R157). -/
def hornUs : Nat := 1000000

/-- How many of the four sumps are judged before RESET_DONE is raised at the end of a soft reset: R180 has
RESET_DONE join the queue together with the CAUSE_RAISED events "in whichever order those are taken", so the
place is a FREE VALUE (log 9), applied to the counter `choices` of the state. -/
opaque resetDonePlace : Nat → Fin 5

end Sys2Proof.Config
end

