-- ==== Sys2Proof/Machine/State.lean ====
section
/-! DEFINITION. The state of the part, block by block as section 3 of the scope file lists them, and its value after power-on. -/

namespace Sys2Proof.Machine

/-- Reasons a step can stop with a fault. The spec describes no event that stops the part. -/
inductive Fault where
  /-- Raised by no meaning: it stands here so that the type has a member. Safe. -/
  | none
deriving DecidableEq, Repr

/-- Reasons a step can be refused. -/
inductive Refusal where
  /-- Raised only by an arm of `exec` whose command has no meaning yet. Safe. -/
  | notModelled (mnemonic : String)
deriving DecidableEq, Repr

/-! ### Names shared by several blocks -/

/-- Commission state (section 11). -/
inductive Commission where
  | uncommissioned
  | commissioned
deriving DecidableEq, Repr

/-- Bay level, level of a cause entry, of a spill input and of SITE_STOP (R155). -/
inductive Level where
  | normal
  | bayStop
  | isolate
deriving DecidableEq, Repr

/-! ### SPT, site port (chapter 1) -/

/-- The two waiters for a place in the site transmit queue (R8). -/
inductive Waiter where
  | management
  | event
deriving DecidableEq, Repr

/-- Site port counter set (R17). -/
structure SiteCounters where
  received : Nat
  checkErrors : Nat
  lengthErrors : Nat
  framingErrors : Nat
  overruns : Nat
  drops : Nat
deriving DecidableEq, Repr

/-- Site port: receive buffer (R6), transmit queue (R7), arbiter (R8) and counters (R17). -/
structure Spt where
  rx : List Frame
  tx : List Frame
  /-- who received the last contested place (R8) -/
  lastContested : Waiter
  counters : SiteCounters
deriving DecidableEq, Repr

/-! ### FSM, field port and segment master (chapters 1 and 2) -/

/-- State of a poll list entry in use (section 2.1). -/
inductive EntryState where
  | absent
  | joining
  | acking
  | active
  | silent
  | incompatible
deriving DecidableEq, Repr

/-- A poll list entry in use: configuration fields, then live fields (section 2.1). -/
structure PollEntry where
  station : Nat
  /-- allowed formats, bit n set for format n -/
  formats : Byte
  interval : Nat
  staleness : Nat
  recallAge : Nat
  critical : Bool
  state : EntryState
  format : Option Nat
  legacy : Bool
  caps : Option Byte
  stationType : Option Byte
  matchCount : Nat
  ackCount : Nat
  legacyCount : Nat
  missCount : Nat
  /-- due time, uptime in ms -/
  dueTime : Nat
  /-- the due time has been reached and the entry is a candidate (R19) -/
  due : Bool
  /-- data time, uptime in ms -/
  dataTime : Option Nat
  /-- the freshness last reported to tanks and sumps (R25) -/
  reportedFresh : Bool
deriving DecidableEq, Repr

/-- A poll exchange in progress (R21). -/
structure PollExchange where
  entry : Fin 32
  /-- the polled station; it stands even when the entry is rewritten (R18) -/
  station : Nat
  /-- a JOIN_QUERY exchange, not a POLL -/
  query : Bool
  burst : Nat
  /-- uptime in ms at which its poll frame began (R19) -/
  start : Nat
  /-- reply deadline in us, absent while the poll frame is being sent -/
  deadline : Option Nat
  goodReplies : Nat
  /-- the entry has not been rewritten since the exchange began (R18) -/
  live : Bool
deriving DecidableEq, Repr

/-- What holds the segment (R20). -/
inductive Exchange where
  | forward
  | poll (x : PollExchange)
deriving DecidableEq, Repr

/-- The frame in the field receive hold (R5), with whether it began within a reply deadline (R22) and the
moment of its end gap in us. -/
structure Held where
  frame : Frame
  inWindow : Bool
  endedAt : Nat
deriving DecidableEq, Repr

/-- A frame being received on the segment. -/
structure Receiving where
  inWindow : Bool
deriving DecidableEq, Repr

/-- Sorts of frame in the field forward queue (R9). -/
inductive ForwardSort where
  | site (gated : Bool)
  | panelStatus
deriving DecidableEq, Repr

/-- A frame waiting in the field forward queue, with the uptime in ms at which it joined (R9). -/
structure Forward where
  frame : Frame
  sort : ForwardSort
  joined : Nat
deriving DecidableEq, Repr

/-- Kind served at the poll arbiter's last grant (R20). -/
inductive Grant where
  | forwardQueue
  | poll
deriving DecidableEq, Repr

/-- Loan state (section 2.5). -/
inductive Loan where
  | master
  | granting
  | lent
deriving DecidableEq, Repr

/-- A DELIVERY_ANSWER to be sent, and the end gap in us that it answers (R33). -/
structure Answer where
  frame : Frame
  endedAt : Nat
deriving DecidableEq, Repr

/-- Field port counter set (R17). -/
structure FieldCounters where
  received : Nat
  checkErrors : Nat
  lengthErrors : Nat
  framingErrors : Nat
  overruns : Nat
  unclassified : Nat
  roleErrors : Nat
  forwardDrops : Nat
  unsolicited : Nat
  pollMisses : Nat
deriving DecidableEq, Repr

/-- Field port and segment master. -/
structure Fsm where
  /-- poll list; none is UNUSED -/
  entries : Vector (Option PollEntry) 32
  /-- configuration fields of an UNUSED entry, as they were written (R18); nothing for an entry in use -/
  unused : Vector (List Byte) 32
  hold : Option Held
  receiving : Option Receiving
  exchange : Option Exchange
  /-- us from which the line has been idle for 3 character times -/
  freeAt : Nat
  /-- us until which the part drives the segment with a DELIVERY_ANSWER -/
  drivingUntil : Nat
  /-- the frame the part last began to send on the segment -/
  lineOut : Option Frame
  queue : List Forward
  lastGrant : Grant
  /-- level of the LRQ input -/
  lrq : Bool
  loan : Loan
  /-- uptime in ms of the grant -/
  grantedAt : Nat
  recalled : Bool
  overrun : Bool
  /-- uptime in ms at which the recall timeout runs out -/
  recallDue : Option Nat
  answer : Option Answer
  counters : FieldCounters
deriving DecidableEq, Repr

/-! ### FCL, frame classifier (chapter 1) -/

inductive Direction where
  | fromField
  | fromSite
deriving DecidableEq, Repr

inductive Role where
  | nozzleTag
  | panelEntry
  | gaugeSample
  | sumpLevel
deriving DecidableEq, Repr

inductive Disposition where
  | pass
  | act
  | actPass
  | drop
deriving DecidableEq, Repr

/-- A match segment; the mask and value bytes number its length (section 1.6). -/
structure Segment where
  offset : Nat
  mask : List Byte
  value : List Byte
deriving DecidableEq, Repr

/-- A valid classifier entry (section 1.6). -/
structure ClassifierEntry where
  direction : Direction
  segments : List Segment
  role : Option Role
  roleBase : Nat
  disposition : Disposition
  /-- gate SHUT_GATED -/
  gated : Bool
deriving DecidableEq, Repr

/-- Classifier table; none is an invalid entry. -/
structure Fcl where
  table : Vector (Option ClassifierEntry) 32
  /-- an invalid entry as it was written (R12); nothing for a valid one -/
  invalid : Vector (List Byte) 32
deriving DecidableEq, Repr

/-! ### MTC, meter channels (chapter 3) -/

inductive DecodeMode where
  | single
  | double
  | quad
deriving DecidableEq, Repr

/-- A filtered input: raw level, filtered level, and since when (us) the raw level has differed (R39). -/
structure Input where
  raw : Bool
  level : Bool
  since : Option Nat
deriving DecidableEq, Repr

/-- Channel configuration (section 3.1). -/
structure ChannelConfig where
  mode : DecodeMode
  invert : Bool
  glitch : Nat
  /-- K factor, 0 unset -/
  k : Nat
  /-- creep limit, 0 off -/
  creepLimit : Nat
deriving DecidableEq, Repr

/-- A channel record: configuration, then live values (section 3.3, R39). -/
structure Channel where
  config : ChannelConfig
  inputA : Input
  inputB : Input
  count : BitVec 32
  totaliser : BitVec 64
  window : Int
  lastWindow : Int
  flow : Option Nat
  creep : Nat
  reverse : Bool
  phaseErrors : Nat
  /-- uptime in ms of the next rate window close (R45) -/
  windowDue : Nat
deriving DecidableEq, Repr

/-- The capture record while FULL (section 3.6). -/
structure Capture where
  channel : Fin 8
  value : BitVec 32
  uptime : Nat
  overrun : Bool
deriving DecidableEq, Repr

/-- Meter channels. -/
structure Mtc where
  channels : Vector Channel 8
  /-- uptime in ms of the next creep window boundary (R49) -/
  creepDue : Nat
  armed : Option (Fin 8)
  /-- none is the empty record -/
  capture : Option Capture
  prover : Input
deriving DecidableEq, Repr

/-! ### VAU, volume arithmetic (chapter 4) -/

inductive ProductKind where
  | fuel
  | lube
  | fluid
deriving DecidableEq, Repr

/-- A defined product record (section 4.2). -/
structure Product where
  kind : ProductKind
  beta : Nat
  defaultTemp : Int
  minDispense : Nat
  slowDown : Nat
deriving DecidableEq, Repr

/-- Product table; none is an undefined record. -/
structure Vau where
  products : Vector (Option Product) 6
  /-- an undefined record as it was written (R56); nothing for a defined one -/
  undefined : Vector (List Byte) 6
deriving DecidableEq, Repr

/-! ### DPT, dispense points (chapter 5) -/

/-- Configuration of a point in service (section 5.1). -/
structure PointConfig where
  product : Fin 6
  tank : Fin 8
  pump : Fin 4
  reader : Nat
  panel : Nat
  maxFlow : Nat
  stopLead : Nat
  tolerance : Nat
  slowOnly : Bool
deriving DecidableEq, Repr

inductive PointState where
  | uncommissioned
  | disabled
  | idle
  | authorised
  | fast
  | slow
  | stopping
deriving DecidableEq, Repr

/-- Source of an authorisation (R76). -/
inductive AuthSource where
  | tag
  | site
  | run
deriving DecidableEq, Repr

/-- Refusal codes of an authorisation (R77), in the order of section 12.7. -/
inductive AuthRefusal where
  | notCommissioned
  | pointDisabled
  | busy
  | bayShut
  | journalFull
  | unknownTag
  | accountSuspended
  | accountBusy
  | productNotPermitted
  | serviceOverdue
  | hoursRequired
  | tankUnavailable
  | limitTooSmall
deriving DecidableEq, Repr

/-- Governing codes (R79). -/
inductive Governing where
  | preset
  | allowance
  | classMax
  | tank
  | offlineCap
  | runStep
deriving DecidableEq, Repr

/-- Dispense end causes (section 5.7). -/
inductive EndCause where
  | limitReached
  | driverStop
  | authTimeout
  | overspeed
  | noFlow
  | meterFault
  | bayStop
  | tankLockout
  | siteCancel
  | reset
deriving DecidableEq, Repr

/-- Hour results (R78). -/
inductive HourResult where
  | none
  | accepted
  | confirmed
  | regression
  | jump
deriving DecidableEq, Repr

/-- The context of an open transaction (sections 5.3 and 4.6). C, G and N are computed from it and the channel. -/
structure Context where
  source : AuthSource
  account : Nat
  tag : Nat
  /-- run id and step index, for source RUN -/
  run : Option (Nat × Nat)
  hour : Option Nat
  hourResult : HourResult
  limit : Nat
  governing : Governing
  startCount : BitVec 32
  posted : Nat
  phaseErrors : Nat
  overspeed : Nat
  /-- last count time, uptime in ms -/
  lastCount : Nat
  overrun : Bool
  startTime : Nat
  startValid : Bool
  endCause : Option EndCause
  segBase : Nat
  segTemp : Int
  segVcf : Nat
  closedNet : Nat
  segCount : Nat
  reverse : Bool
  saturated : Bool
  tempHeld : Bool
  clamped : Bool
  /-- us at which the authorisation timer runs out (R91) -/
  authDue : Nat
  /-- us of the entry to STOPPING (R94) -/
  stoppingAt : Nat
  /-- us from which the quiet period runs (R94) -/
  quietFrom : Nat
deriving DecidableEq, Repr

/-- A dispense point. -/
structure Point where
  /-- none is out of service -/
  config : Option PointConfig
  /-- the record of a point out of service as it was written (R72); nothing for a point in service -/
  idle : List Byte
  state : PointState
  refusal : Option AuthRefusal
  lastNet : Nat
  lastLimit : Nat
  lastGoverning : Option Governing
  /-- us at which a PANEL_STATUS frame was last offered for the point (R96) -/
  statusFrom : Nat
  context : Option Context
deriving DecidableEq, Repr

/-- A pump record (R73). -/
structure Pump where
  fitted : Bool
  on : Bool
  starts : Nat
  runTime : Nat
  /-- us at which the output last came on -/
  onSince : Nat
  /-- on-time in us not yet counted in the run time, up to the last change of the output -/
  carried : Nat
deriving DecidableEq, Repr

/-- Dispense points and pumps. -/
structure Dpt where
  points : Vector Point 8
  pumps : Vector Pump 4
deriving DecidableEq, Repr

/-! ### SRS, service runs (chapter 6) -/

inductive RunState where
  | loaded
  | active
  | suspended
  | done
  | abandoned
deriving DecidableEq, Repr

inductive StepResult where
  | pending
  | ok
  | short
  | refused
deriving DecidableEq, Repr

inductive SuspendReason where
  | pause
  | short
  | refused
deriving DecidableEq, Repr

inductive AbandonReason where
  | site
  | timeout
  | reset
deriving DecidableEq, Repr

/-- A step of a run (section 6.1). -/
structure RunStep where
  point : Fin 8
  target : Nat
  pauseAfter : Bool
  result : StepResult
  delivered : Nat
deriving DecidableEq, Repr

/-- A run (section 6.1). -/
structure Run where
  state : RunState
  runId : Nat
  account : Nat
  steps : List RunStep
  /-- 0 before the run starts -/
  current : Nat
  suspendReason : Option SuspendReason
  /-- uptime in ms at which the suspend timer runs out; none is stopped -/
  suspendDue : Option Nat
  startReading : Option Nat
  ignored : Nat
  abandonReason : Option AbandonReason
deriving DecidableEq, Repr

/-- Service run sequencer; none is an EMPTY slot. -/
structure Srs where
  slots : Vector (Option Run) 4
deriving DecidableEq, Repr

/-! ### MAC, machine accounts (chapter 7) -/

/-- A class record (section 7.1). -/
structure ClassRecord where
  maxFill : Nat
  offlineCap : Nat
  tolerance : Nat
  minSpan : Nat
  bandMin : Nat
  bandMax : Nat
deriving DecidableEq, Repr

/-- An allowance entry (section 7.2). -/
structure Allowance where
  product : Fin 6
  allowance : Option Nat
  used : Nat
  committed : Nat
deriving DecidableEq, Repr

/-- The hour record (section 7.2). -/
structure HourRecord where
  lastAccepted : Option Nat
  wallTime : Option (BitVec 32)
  anchor : Option Nat
  fuel : Nat
  pending : Option Nat
  burnRate : Option Nat
  rejected : Nat
deriving DecidableEq, Repr

/-- State of a service record (R125). -/
inductive ServiceState where
  | ok
  | dueSoon
  | due
  | overdue
deriving DecidableEq, Repr

/-- A service record (section 7.2). -/
structure Service where
  product : Fin 6
  interval : Nat
  minVolume : Nat
  hoursAtLast : Option Nat
  state : ServiceState
deriving DecidableEq, Repr

/-- An account (section 7.2). -/
structure Account where
  tag : Nat
  cls : Fin 16
  suspended : Bool
  hoursRequired : Bool
  serviceLock : Bool
  allowances : List Allowance
  openCount : Nat
  hours : HourRecord
  services : List Service
deriving DecidableEq, Repr

/-- Machine accounts: the held slots of the account table, slot numbers rising. -/
structure Mac where
  classes : Vector ClassRecord 16
  accounts : List (Nat × Account)
deriving DecidableEq, Repr

/-! ### TKS, tanks and deliveries (chapter 8) -/

/-- Configuration of a tank in service (section 8.1). -/
structure TankConfig where
  product : Fin 6
  capacity : Nat
  gauge : Nat
  highHigh : Nat
  safeFill : Nat
  low : Nat
  lockout : Nat
  lossThreshold : Nat
deriving DecidableEq, Repr

inductive GaugeState where
  | valid
  | stale
  | fault
deriving DecidableEq, Repr

/-- Source of the applied temperature (section 4.4). -/
inductive TempSource where
  | sample
  | default
deriving DecidableEq, Repr

inductive TankState where
  | unset
  | normal
  | low
  | lockedOut
deriving DecidableEq, Repr

/-- A point of a strapping table. -/
structure StrapPoint where
  level : Nat
  volume : Nat
deriving DecidableEq, Repr

/-- A tank record (section 8.1). -/
structure Tank where
  /-- none is out of service -/
  config : Option TankConfig
  strap : Option (List StrapPoint)
  gauge : GaugeState
  lastLevel : Option Nat
  lastWater : Option Nat
  lastTemp : Option Int
  applied : Option Int
  source : TempSource
  clamped : Bool
  observed : Option Nat
  /-- STRAP_CLAMPED. R67 holds it absent without a well-formed table, R69 and R129 call it clear: the model holds a flag
  that is clear then and has no absent value (the model's choice, log 64). -/
  strapClamped : Bool
  gaugedNet : Option Nat
  book : Option Int
  committed : Nat
  baseline : Option Int
  gainReported : Bool
  state : TankState
  /-- reference of the open delivery -/
  delivery : Option Nat
deriving DecidableEq, Repr

inductive OrderState where
  | pending
  | active
  | ended
  | refused
deriving DecidableEq, Repr

/-- Delivery end causes (section 12.7). -/
inductive DeliveryEnd where
  | permitReached
  | tankerEnd
  | highLevel
  | gaugeLost
  | isolate
  | loanEnded
  | reset
deriving DecidableEq, Repr

/-- Refusal codes of a delivery request (R141). -/
inductive DeliveryRefusal where
  | mismatch
  | gaugeInvalid
  | highLevel
  | bayIsolated
  | tankBusy
  | journalFull
  | noUllage
deriving DecidableEq, Repr

/-- End cause of an order: why it ENDED or was REFUSED (section 8.5). -/
inductive OrderEnd where
  | ended (c : DeliveryEnd)
  | refused (c : DeliveryRefusal)
deriving DecidableEq, Repr

/-- A delivery order (section 8.5). -/
structure Order where
  reference : Nat
  tanker : Nat
  tank : Fin 8
  product : Fin 6
  ordered : Nat
  state : OrderState
  permitted : Nat
  gross : Nat
  net : Nat
  posted : Nat
  lastTemp : Int
  startTime : Nat
  startValid : Bool
  endTime : Nat
  endCause : Option OrderEnd
  record : Option Nat
deriving DecidableEq, Repr

/-- Tank stock. -/
structure Tks where
  tanks : Vector Tank 8
  /-- none is an empty entry -/
  orders : Vector (Option Order) 16
  /-- tanks whose move into LOCKED_OUT is still to be reported to the points (R136) -/
  lockouts : List (Fin 8)
deriving DecidableEq, Repr

/-! ### SSD, spill and shutdown (chapter 9) -/

/-- A spill sensor input (section 9.1, R148). -/
structure Spill where
  enabled : Bool
  activeLow : Bool
  debounce : Nat
  level : Level
  raw : Bool
  /-- us at which debounce timing began -/
  timing : Option Nat
  present : Bool
deriving DecidableEq, Repr

/-- An emergency-stop loop (R149). -/
structure EstopLoop where
  isOpen : Bool
  /-- us at which the loop was first seen at the level its condition does not have -/
  timing : Option Nat
  present : Bool
deriving DecidableEq, Repr

/-- Configuration of a sump (section 9.3); with station 0 the sump is not fitted, and the levels stand as written
(R150). -/
structure SumpConfig where
  station : Nat
  high : Nat
  highHigh : Nat
deriving DecidableEq, Repr

/-- A sump (section 9.3). -/
structure Sump where
  config : SumpConfig
  lastLevel : Option Nat
  high : Bool
  highHigh : Bool
  stale : Bool
deriving DecidableEq, Repr

/-- Keys of the cause set (section 9.4). -/
inductive CauseKey where
  | estop (loop : Fin 2)
  | spill (input : Fin 8)
  | sumpHigh (sump : Fin 4)
  | sumpHighHigh (sump : Fin 4)
  | sumpStale (sump : Fin 4)
  | unauthorisedFlow (channel : Fin 8)
  | lineLoss (tank : Fin 8)
  | siteStop
deriving DecidableEq, Repr

/-- An entry of the cause set: ACTIVE or LATCHED, and its level (section 9.4). -/
structure CauseEntry where
  active : Bool
  level : Level
deriving DecidableEq, Repr

/-- Spill and shutdown. The cause set has one place for each of the 39 keys, in the order of section 9.4. -/
structure Ssd where
  spills : Vector Spill 8
  loops : Vector EstopLoop 2
  sumps : Vector Sump 4
  causes : Vector (Option CauseEntry) 39
  level : Level
  silenced : Bool
  /-- the horn pattern is in an on second -/
  hornOn : Bool
  /-- us of the pattern's next change -/
  hornDue : Nat
deriving DecidableEq, Repr

/-! ### JEV, journal and events (chapter 10) -/

/-- Event kinds, group by group in the order of R166. -/
inductive EventKind where
  | transactionEnd | authRefused | overrun
  | hourRejected | burnRateAnomaly | serviceDue | serviceOverdue | serviceDone
  | tankLow | tankLockout | gaugeStale | gaugeFault | stockGain | deliveryStart | deliveryEnd | deliveryRefused
  | causeRaised | causeGone | levelChanged | cleared
  | stationJoined | stationSilent | stationIncompatible | loanGranted | loanEnded | loanOverrun
  | runStarted | runSuspended | runDone | runAbandoned
  | journalFull | journalRoom | online | offline | resetDone | proverCapture
  | phaseErrors | reverseFlow
  | groupPending
deriving DecidableEq, Repr

/-- An event (section 10.3); the detail has 8 bytes. -/
structure Event where
  kind : EventKind
  source : Nat
  uptime : Nat
  detail : List Byte
deriving DecidableEq, Repr

/-- A DISPENSE record (section 10.1). -/
structure DispenseRecord where
  number : Nat
  point : Fin 8
  product : Fin 6
  tank : Fin 8
  source : AuthSource
  account : Nat
  tag : Nat
  run : Option (Nat × Nat)
  hour : Option Nat
  hourResult : HourResult
  limit : Nat
  governing : Governing
  gross : Nat
  net : Nat
  segCount : Nat
  lastTemp : Int
  startTime : Nat
  endTime : Nat
  timeValid : Bool
  endCause : Option EndCause
  reverse : Bool
  saturated : Bool
  tempHeld : Bool
  clamped : Bool
  overrun : Bool
deriving DecidableEq, Repr

/-- A DELIVERY record (section 10.1). -/
structure DeliveryRecord where
  number : Nat
  reference : Nat
  tanker : Nat
  tank : Fin 8
  product : Fin 6
  permitted : Nat
  gross : Nat
  net : Nat
  lastTemp : Int
  startTime : Nat
  endTime : Nat
  timeValid : Bool
  endCause : DeliveryEnd
deriving DecidableEq, Repr

/-- A journal record (section 10.1). -/
inductive Record where
  | dispense (r : DispenseRecord)
  | delivery (r : DeliveryRecord)
deriving DecidableEq, Repr

/-- Journal and events. -/
structure Jev where
  /-- oldest first -/
  journal : List Record
  nextNumber : Nat
  reserved : Nat
  /-- record numbers had run out before the last line reset, and stay so until power-on (R163, R171, log 54) -/
  spent : Bool
  fullReported : Bool
  queue : List Event
  masks : Vector Bool 8
  pendings : Vector Bool 8
  lost : Bool
deriving DecidableEq, Repr

/-! ### MGT, management (chapter 11) -/

/-- Bay parameters (section 11.2). -/
structure Params where
  /-- default field disposition is PASS -/
  fieldPass : Bool
  /-- default site disposition is PASS -/
  sitePass : Bool
  loanEnable : Bool
  loanLimit : Nat
  recallTimeout : Nat
  authTimeout : Nat
  noFlowTime : Nat
  linkSilence : Nat
deriving DecidableEq, Repr

inductive ResetKind where
  | powerOn
  | line
  | soft
deriving DecidableEq, Repr

/-- The objects moved in parts (R184). -/
inductive PartedObject where
  | strapping
  | accounts
deriving DecidableEq, Repr

/-- The assembly of a write in parts: object, index, parts received and their bytes (R184). -/
structure Assembly where
  object : PartedObject
  index : Nat
  parts : Nat
  bytes : List Byte
deriving DecidableEq, Repr

/-- Management. -/
structure Mgt where
  commission : Commission
  params : Params
  wall : BitVec 32
  timeValid : Bool
  /-- us of the wall time's next increase; below 0 where a reset has passed over it (R177) -/
  wallDue : Int
  /-- link state ONLINE -/
  online : Bool
  /-- uptime in ms at which the link silence timer runs out; none is stopped -/
  silenceDue : Option Nat
  /-- uptime in ms at which the link went OFFLINE -/
  offlineSince : Nat
  resetKind : ResetKind
  lineResets : Nat
  softResets : Nat
  assembly : Option Assembly
  /-- a soft reset waits for this many frames of the site transmit queue to be sent (R179) -/
  softReset : Option Nat
deriving DecidableEq, Repr

/-! ### The state -/

/-- The state of the part and its queue of waiting commands. -/
structure State where
  /-- commands waiting, first in first out (the model's own field) -/
  pending : List Instr
  /-- microseconds since the end of the last reset (the model's own field, log 1) -/
  clock : Nat
  /-- counter that free values are applied to (the model's own field, log 9) -/
  choices : Nat
  spt : Spt
  fsm : Fsm
  fcl : Fcl
  mtc : Mtc
  vau : Vau
  dpt : Dpt
  srs : Srs
  mac : Mac
  tks : Tks
  ssd : Ssd
  jev : Jev
  mgt : Mgt
deriving DecidableEq, Repr

/-! ### Reset values -/

namespace Reset

def siteCounters : SiteCounters := ⟨0, 0, 0, 0, 0, 0⟩

def fieldCounters : FieldCounters := ⟨0, 0, 0, 0, 0, 0, 0, 0, 0, 0⟩

/-- Section 1.11. -/
def spt : Spt := { rx := [], tx := [], lastContested := .event, counters := siteCounters }

/-- R37, R5, R9, with LRQ at the level given. That the line counts as idle long enough for a grant at once (R1, R20) is
the model's choice (log 46). -/
def fsm (lrq : Bool) : Fsm :=
  { entries := Vector.replicate 32 none, unused := Vector.replicate 32 (List.replicate 9 0), hold := none,
    receiving := none, exchange := none, freeAt := 0, drivingUntil := 0, lineOut := none, queue := [],
    lastGrant := .forwardQueue, lrq := lrq, loan := .master, grantedAt := 0, recalled := false, overrun := false,
    recallDue := none, answer := none, counters := fieldCounters }

/-- R12. -/
def fcl : Fcl := { table := Vector.replicate 32 none, invalid := Vector.replicate 32 (List.replicate 7 0) }

/-- An input whose filtered level takes the first sample (R39). -/
def input (raw : Bool) : Input := { raw := raw, level := raw, since := none }

/-- R54: a channel after power-on with these raw levels and this totaliser. -/
def channel (rawA rawB : Bool) (totaliser : BitVec 64) : Channel :=
  { config := { mode := .single, invert := false, glitch := 0, k := 0, creepLimit := 0 },
    inputA := input rawA, inputB := input rawB, count := 0, totaliser := totaliser, window := 0,
    lastWindow := 0, flow := none, creep := 0, reverse := false, phaseErrors := 0,
    windowDue := Config.rateWindowMs }

/-- R54. -/
def mtc : Mtc :=
  { channels := Vector.replicate 8 (channel false false 0), creepDue := Config.creepWindowMs, armed := none,
    capture := none, prover := input false }

/-- R56. -/
def vau : Vau := { products := Vector.replicate 6 none, undefined := Vector.replicate 6 (List.replicate 12 0) }

/-- R98. -/
def point : Point :=
  { config := none, idle := List.replicate 16 0, state := .uncommissioned, refusal := none, lastNet := 0,
    lastLimit := 0, lastGoverning := none, statusFrom := 0, context := none }

/-- R73. -/
def pump : Pump := { fitted := false, on := false, starts := 0, runTime := 0, onSince := 0, carried := 0 }

/-- R98. -/
def dpt : Dpt := { points := Vector.replicate 8 point, pumps := Vector.replicate 4 pump }

/-- R111. -/
def srs : Srs := { slots := Vector.replicate 4 none }

/-- Section 7.1. -/
def cls : ClassRecord := { maxFill := 0, offlineCap := 0, tolerance := 0, minSpan := 50, bandMin := 0, bandMax := 65535 }

/-- R128. -/
def mac : Mac := { classes := Vector.replicate 16 cls, accounts := [] }

/-- R146. -/
def tank : Tank :=
  { config := none, strap := none, gauge := .stale, lastLevel := none, lastWater := none, lastTemp := none,
    applied := none, source := .default, clamped := false, observed := none, strapClamped := false,
    gaugedNet := none, book := none, committed := 0, baseline := none, gainReported := false, state := .unset,
    delivery := none }

/-- R146. -/
def tks : Tks := { tanks := Vector.replicate 8 tank, orders := Vector.replicate 16 none, lockouts := [] }

/-- Section 9.1, with the raw level given. -/
def spill (raw : Bool) : Spill :=
  { enabled := false, activeLow := false, debounce := 0, level := .bayStop, raw := raw, timing := none,
    present := false }

/-- R149: a loop that is open when a reset ends is timed from the reset's end. -/
def loop (isOpen : Bool) : EstopLoop :=
  { isOpen := isOpen, timing := if isOpen then some 0 else none, present := false }

/-- R150. -/
def sump : Sump :=
  { config := { station := 0, high := 0, highHigh := 0 }, lastLevel := none, high := false, highHigh := false, stale := false }

/-- R161, power-on. -/
def ssd : Ssd :=
  { spills := Vector.replicate 8 (spill false), loops := Vector.replicate 2 (loop false),
    sumps := Vector.replicate 4 sump, causes := Vector.replicate 39 none, level := .normal, silenced := false,
    hornOn := true, hornDue := Config.hornUs }

/-- RESET_DONE, the first event queued after power-on and line reset (R180, section 12.5). -/
def resetDone (kind line soft : Byte) : Event :=
  { kind := .resetDone, source := 0xFFFF, uptime := 0, detail := [kind, line, soft, 0, 0, 0, 0, 0] }

/-- R171, power-on. -/
def jev : Jev :=
  { journal := [], nextNumber := 1, reserved := 0, spent := false, fullReported := false, queue := [resetDone 1 0 0],
    masks := Vector.replicate 8 false, pendings := Vector.replicate 8 false, lost := false }

/-- Section 11.2. -/
def params : Params :=
  { fieldPass := true, sitePass := true, loanEnable := false, loanLimit := 0, recallTimeout := 10,
    authTimeout := 120, noFlowTime := 60, linkSilence := 60 }

/-- R175, R177, R178, R180, R184. -/
def mgt : Mgt :=
  { commission := .uncommissioned, params := params, wall := 0, timeValid := false, wallDue := 0,
    online := true, silenceDue := some 60000, offlineSince := 0, resetKind := .powerOn, lineResets := 0,
    softResets := 0, assembly := none, softReset := none }

end Reset

/-- The part right after power-on, with LRQ deasserted, the loops closed and every other input line low (log 4). -/
def State.reset : State :=
  { pending := [], clock := 0, choices := 0, spt := Reset.spt, fsm := Reset.fsm false, fcl := Reset.fcl,
    mtc := Reset.mtc, vau := Reset.vau, dpt := Reset.dpt, srs := Reset.srs, mac := Reset.mac, tks := Reset.tks,
    ssd := Reset.ssd, jev := Reset.jev, mgt := Reset.mgt }

end Sys2Proof.Machine
end

