-- ==== Sys2Proof/Machine/Bytes.lean ====
section
/-! DEFINITION. Byte order, the frame check, and the fields of a frame (R1 to R3, R183). -/

namespace Sys2Proof.Machine

/-- `i` as an index below `n`, if it is one. -/
def toFin (n i : Nat) : Option (Fin n) := if h : i < n then some ⟨i, h⟩ else none

/-- An unsigned field, most significant byte first (R183). -/
def beNat (bs : List Byte) : Nat := bs.foldl (fun n b => 256 * n + b.toNat) 0

/-- A signed field in two's complement, most significant byte first (R183). -/
def beInt (bs : List Byte) : Int :=
  if 256 ^ bs.length ≤ 2 * beNat bs then (beNat bs : Int) - (256 ^ bs.length : Nat) else (beNat bs : Int)

/-- `n` in `w` bytes, most significant first (R183). -/
def beBytes : Nat → Nat → List Byte
  | 0, _ => []
  | w + 1, n => beBytes w (n / 256) ++ [BitVec.ofNat 8 n]

/-- `i` in `w` bytes of two's complement (R183). -/
def beBytesInt (w : Nat) (i : Int) : List Byte := beBytes w (i % (256 ^ w : Nat)).toNat

/-- The bytes of `bs` from offset `off`, `w` of them. -/
def slice (bs : List Byte) (off w : Nat) : List Byte := (bs.drop off).take w

/-- The unsigned field of `w` bytes at offset `off`. -/
def num (bs : List Byte) (off w : Nat) : Nat := beNat (slice bs off w)

/-- The signed field of `w` bytes at offset `off`. -/
def sgn (bs : List Byte) (off w : Nat) : Int := beInt (slice bs off w)

/-- A flag at offset `off`: 0 clear, 1 set, no other value (R185). -/
def flagAt (bs : List Byte) (off : Nat) : Option Bool :=
  match num bs off 1 with
  | 0 => some false
  | 1 => some true
  | _ => none

/-- An optional field at offset `off`: its presence byte, then `w` bytes that are read only when it is present
(R183). The outer `none` is a presence byte other than 0 or 1. -/
def optAt (bs : List Byte) (off w : Nat) : Option (Option Nat) :=
  match flagAt bs off with
  | none => none
  | some false => some none
  | some true => some (some (num bs (off + 1) w))

/-- A flag in one byte (R185). -/
def flagByte (b : Bool) : List Byte := [if b then 1 else 0]

/-- An optional field: presence byte, then the value or zeros (R183). -/
def optBytes (w : Nat) : Option Nat → List Byte
  | none => 0 :: beBytes w 0
  | some v => 1 :: beBytes w v

/-- An optional signed field: presence byte, then the value or zeros (R183). -/
def optBytesInt (w : Nat) : Option Int → List Byte
  | none => 0 :: beBytes w 0
  | some v => 1 :: beBytesInt w v

/-- `count` chunks of `size` bytes, as a list whose items all have one length is laid out (R185). -/
def chunks : Nat → Nat → List Byte → List (List Byte)
  | 0, _, _ => []
  | count + 1, size, bs => bs.take size :: chunks count size (bs.drop size)

/-! ### The check (R3) -/

/-- One bit of the division by x^16 + x^12 + x^5 + 1 (R3). -/
def crcBit (c : BitVec 16) : BitVec 16 := if c.msb then (c <<< 1) ^^^ 0x1021#16 else c <<< 1

/-- One byte, most significant bit first (R3). -/
def crcByte (c : BitVec 16) (b : Byte) : BitVec 16 :=
  let c := c ^^^ ((b.setWidth 16) <<< 8)
  crcBit (crcBit (crcBit (crcBit (crcBit (crcBit (crcBit (crcBit c)))))))

/-- The check over a header and payload, from 0xFFFF (R3). -/
def crc (bs : List Byte) : BitVec 16 := bs.foldl crcByte 0xFFFF#16

/-! ### Frames (section 1.1) -/

def frameDest (f : Frame) : Nat := num f 0 1
def frameSource (f : Frame) : Nat := num f 1 1
def frameKind (f : Frame) : Nat := num f 2 1
def framePayload (f : Frame) : List Byte := (f.drop 4).take (f.length - 6)

/-- Fixed kind codes (section 1.2). -/
def kindPoll : Byte := 0x10
def kindJoinQuery : Byte := 0x11
def kindAnnounce : Nat := 0x12
def kindRequest : Nat := 0x20
def kindResponse : Byte := 0x21
def kindEvent : Byte := 0x22
def kindPanelStatus : Byte := 0x30
def kindDelivery : Nat := 0x40
def kindDeliveryAnswer : Byte := 0x41

/-- A frame the part originates, from source 0, with its check (R3, R183). -/
def makeFrame (dest : Nat) (kind : Byte) (payload : List Byte) : Frame :=
  let body := [BitVec.ofNat 8 dest, 0, kind, BitVec.ofNat 8 payload.length] ++ payload
  body ++ beBytes 2 (crc body).toNat

/-- The first fault of an invalid frame (R2). -/
inductive FrameFault where
  | framing
  | length
  | check
deriving DecidableEq, Repr

/-- How a frame is judged at its end gap (R2): none is valid. -/
def judgeFrame (chars : Frame) (framingError : Bool) : Option FrameFault :=
  if framingError then some .framing
  else if chars.length < 6 ∨ 126 < chars.length ∨ 120 < num chars 3 1 ∨ num chars 3 1 ≠ chars.length - 6 then
    some .length
  else if beNat (chars.drop (chars.length - 2)) ≠ (crc (chars.take (chars.length - 2))).toNat then some .check
  else none

/-- An ANNOUNCE: one whose payload is shorter than 3 bytes is taken as a frame that is not an ANNOUNCE (R183). -/
def isAnnounce (f : Frame) : Bool := decide (frameKind f = kindAnnounce) && decide (3 ≤ (framePayload f).length)

end Sys2Proof.Machine
end

