-- ==== Sys2Proof/Machine/Layouts.lean ====
section
/-! DEFINITION. The codes of section 12.7 and R183, and the layouts of what the part sends. -/

namespace Sys2Proof.Machine

/-! ### Codes -/

def Level.code : Level → Byte
  | .normal => 0
  | .bayStop => 1
  | .isolate => 2

def Commission.code : Commission → Byte
  | .uncommissioned => 1
  | .commissioned => 2

def PointState.code : PointState → Byte
  | .uncommissioned => 1
  | .disabled => 2
  | .idle => 3
  | .authorised => 4
  | .fast => 5
  | .slow => 6
  | .stopping => 7

def AuthRefusal.code : AuthRefusal → Byte
  | .notCommissioned => 1
  | .pointDisabled => 2
  | .busy => 3
  | .bayShut => 4
  | .journalFull => 5
  | .unknownTag => 6
  | .accountSuspended => 7
  | .accountBusy => 8
  | .productNotPermitted => 9
  | .serviceOverdue => 10
  | .hoursRequired => 11
  | .tankUnavailable => 12
  | .limitTooSmall => 13

/-- Refusal code, 0 for none (section 12.7). -/
def refusalCode : Option AuthRefusal → Byte
  | none => 0
  | some r => r.code

def Governing.code : Governing → Byte
  | .preset => 1
  | .allowance => 2
  | .classMax => 3
  | .tank => 4
  | .offlineCap => 5
  | .runStep => 6

/-- Governing code, 0 for none (section 12.7). -/
def governingCode : Option Governing → Byte
  | none => 0
  | some g => g.code

def EndCause.code : EndCause → Byte
  | .limitReached => 1
  | .driverStop => 2
  | .authTimeout => 3
  | .overspeed => 4
  | .noFlow => 5
  | .meterFault => 6
  | .bayStop => 7
  | .tankLockout => 8
  | .siteCancel => 9
  | .reset => 10

def endCauseCode : Option EndCause → Byte
  | none => 0
  | some c => c.code

def DeliveryEnd.code : DeliveryEnd → Byte
  | .permitReached => 1
  | .tankerEnd => 2
  | .highLevel => 3
  | .gaugeLost => 4
  | .isolate => 5
  | .loanEnded => 6
  | .reset => 7

def DeliveryRefusal.code : DeliveryRefusal → Byte
  | .mismatch => 19
  | .gaugeInvalid => 20
  | .highLevel => 21
  | .bayIsolated => 22
  | .tankBusy => 23
  | .journalFull => 24
  | .noUllage => 25

/-- An order's end cause as a delivery order read gives it (section 12.7, last sentence). -/
def orderEndCode : Option OrderEnd → Byte
  | none => 0
  | some (.ended c) => c.code
  | some (.refused c) => c.code

/-- The delivery end cause carried by a DELIVERY_ANSWER, or 0 (section 12.3). -/
def answerEndCode : Option OrderEnd → Byte
  | some (.ended c) => c.code
  | _ => 0

def HourResult.code : HourResult → Byte
  | .none => 0
  | .accepted => 1
  | .confirmed => 2
  | .regression => 3
  | .jump => 4

def AuthSource.code : AuthSource → Byte
  | .tag => 1
  | .site => 2
  | .run => 3

def ProductKind.code : ProductKind → Byte
  | .fuel => 1
  | .lube => 2
  | .fluid => 3

def DecodeMode.code : DecodeMode → Byte
  | .single => 1
  | .double => 2
  | .quad => 3

def GaugeState.code : GaugeState → Byte
  | .valid => 1
  | .stale => 2
  | .fault => 3

def TempSource.code : TempSource → Byte
  | .sample => 1
  | .default => 2

def TankState.code : TankState → Byte
  | .unset => 1
  | .normal => 2
  | .low => 3
  | .lockedOut => 4

def OrderState.code : OrderState → Byte
  | .pending => 1
  | .active => 2
  | .ended => 3
  | .refused => 4

/-- Entry states in the order of section 2.1, UNUSED first (R183). -/
def EntryState.code : EntryState → Byte
  | .absent => 2
  | .joining => 3
  | .acking => 4
  | .active => 5
  | .silent => 6
  | .incompatible => 7

/-- Run states in the order of section 6.1, EMPTY first (R183). -/
def RunState.code : RunState → Byte
  | .loaded => 2
  | .active => 3
  | .suspended => 4
  | .done => 5
  | .abandoned => 6

def StepResult.code : StepResult → Byte
  | .pending => 1
  | .ok => 2
  | .short => 3
  | .refused => 4

def SuspendReason.code : SuspendReason → Byte
  | .pause => 1
  | .short => 2
  | .refused => 3

def suspendCode : Option SuspendReason → Byte
  | none => 0
  | some r => r.code

def AbandonReason.code : AbandonReason → Byte
  | .site => 1
  | .timeout => 2
  | .reset => 3

def abandonCode : Option AbandonReason → Byte
  | none => 0
  | some r => r.code

def ServiceState.code : ServiceState → Byte
  | .ok => 1
  | .dueSoon => 2
  | .due => 3
  | .overdue => 4

def Loan.code : Loan → Byte
  | .master => 1
  | .granting => 2
  | .lent => 3

def ResetKind.code : ResetKind → Byte
  | .powerOn => 1
  | .line => 2
  | .soft => 3

def Direction.code : Direction → Byte
  | .fromField => 1
  | .fromSite => 2

def Role.code : Role → Byte
  | .nozzleTag => 1
  | .panelEntry => 2
  | .gaugeSample => 3
  | .sumpLevel => 4

def roleCode : Option Role → Byte
  | none => 0
  | some r => r.code

def Disposition.code : Disposition → Byte
  | .pass => 1
  | .act => 2
  | .actPass => 3
  | .drop => 4

/-- Statuses of a response (section 12.7). -/
inductive Status where
  | ok
  | badLength
  | badParam
  | locked
  | notFound
  | duplicate
  | full
  | busy
  | state
deriving DecidableEq, Repr

def Status.code : Status → Byte
  | .ok => 0
  | .badLength => 1
  | .badParam => 2
  | .locked => 3
  | .notFound => 4
  | .duplicate => 5
  | .full => 6
  | .busy => 7
  | .state => 8

/-- Commission check codes (section 12.7). -/
inductive CheckCode where
  | noProduct
  | channelK
  | tankProduct
  | strapAbsent
  | strapLevels
  | strapVolumes
  | tankLimits
  | tankHighHigh
  | tankSafeFill
  | tankGauge
  | pointProduct
  | pointTank
  | pointPump
deriving DecidableEq, Repr

def CheckCode.code : CheckCode → Byte
  | .noProduct => 1
  | .channelK => 2
  | .tankProduct => 3
  | .strapAbsent => 4
  | .strapLevels => 5
  | .strapVolumes => 6
  | .tankLimits => 7
  | .tankHighHigh => 8
  | .tankSafeFill => 9
  | .tankGauge => 10
  | .pointProduct => 11
  | .pointTank => 12
  | .pointPump => 13

/-! ### Causes (section 9.4) -/

/-- Code of a cause's kind: its place in the table of section 9.4 (R183). -/
def CauseKey.kindCode : CauseKey → Byte
  | .estop _ => 1
  | .spill _ => 2
  | .sumpHigh _ => 3
  | .sumpHighHigh _ => 4
  | .sumpStale _ => 5
  | .unauthorisedFlow _ => 6
  | .lineLoss _ => 7
  | .siteStop => 8

/-- Source of a cause. -/
def CauseKey.source : CauseKey → Nat
  | .estop l => l.val
  | .spill i => i.val
  | .sumpHigh k => k.val
  | .sumpHighHigh k => k.val
  | .sumpStale k => k.val
  | .unauthorisedFlow c => c.val
  | .lineLoss t => t.val
  | .siteStop => 0

/-- Place of a key among the 39, in the order of section 9.4 and by increasing source within a kind (R160). -/
def CauseKey.place : CauseKey → Fin 39
  | .estop l => ⟨l.val, by omega⟩
  | .spill i => ⟨2 + i.val, by omega⟩
  | .sumpHigh k => ⟨10 + k.val, by omega⟩
  | .sumpHighHigh k => ⟨14 + k.val, by omega⟩
  | .sumpStale k => ⟨18 + k.val, by omega⟩
  | .unauthorisedFlow c => ⟨22 + c.val, by omega⟩
  | .lineLoss t => ⟨30 + t.val, by omega⟩
  | .siteStop => 38

/-- One byte of STATUS_READ's map of the cause set (section 12.4). -/
def causeByte : Option CauseEntry → Byte
  | none => 0
  | some e => (if e.active then 1 else 2) ||| (e.level.code <<< 2)

/-! ### Events (sections 10.3 and 12.5) -/

/-- Group of an event kind as its place 0 to 7 in the table of R166; GROUP_PENDING has none. -/
def EventKind.group : EventKind → Option (Fin 8)
  | .transactionEnd | .authRefused | .overrun => some 0
  | .hourRejected | .burnRateAnomaly | .serviceDue | .serviceOverdue | .serviceDone => some 1
  | .tankLow | .tankLockout | .gaugeStale | .gaugeFault | .stockGain | .deliveryStart | .deliveryEnd
  | .deliveryRefused => some 2
  | .causeRaised | .causeGone | .levelChanged | .cleared => some 3
  | .stationJoined | .stationSilent | .stationIncompatible | .loanGranted | .loanEnded | .loanOverrun => some 4
  | .runStarted | .runSuspended | .runDone | .runAbandoned => some 5
  | .journalFull | .journalRoom | .online | .offline | .resetDone | .proverCapture => some 6
  | .phaseErrors | .reverseFlow => some 7
  | .groupPending => none

/-- Kind code 16 g + p of section 12.5, with g and p counted from 1. -/
def EventKind.code : EventKind → Byte
  | .transactionEnd => 0x11
  | .authRefused => 0x12
  | .overrun => 0x13
  | .hourRejected => 0x21
  | .burnRateAnomaly => 0x22
  | .serviceDue => 0x23
  | .serviceOverdue => 0x24
  | .serviceDone => 0x25
  | .tankLow => 0x31
  | .tankLockout => 0x32
  | .gaugeStale => 0x33
  | .gaugeFault => 0x34
  | .stockGain => 0x35
  | .deliveryStart => 0x36
  | .deliveryEnd => 0x37
  | .deliveryRefused => 0x38
  | .causeRaised => 0x41
  | .causeGone => 0x42
  | .levelChanged => 0x43
  | .cleared => 0x44
  | .stationJoined => 0x51
  | .stationSilent => 0x52
  | .stationIncompatible => 0x53
  | .loanGranted => 0x54
  | .loanEnded => 0x55
  | .loanOverrun => 0x56
  | .runStarted => 0x61
  | .runSuspended => 0x62
  | .runDone => 0x63
  | .runAbandoned => 0x64
  | .journalFull => 0x71
  | .journalRoom => 0x72
  | .online => 0x73
  | .offline => 0x74
  | .resetDone => 0x75
  | .proverCapture => 0x76
  | .phaseErrors => 0x81
  | .reverseFlow => 0x82
  | .groupPending => 0x01

/-- The source index of an event that names no object (section 12.5). -/
def noSource : Nat := 0xFFFF

/-- Fill `bs` with zeros, or cut it, to `n` bytes (R183). -/
def padTo (n : Nat) (bs : List Byte) : List Byte := (bs ++ List.replicate n 0).take n

/-- An hour value in 3 bytes, all ones for absent (section 12.5). -/
def hourBytes : Option Nat → List Byte
  | none => [0xFF, 0xFF, 0xFF]
  | some h => beBytes 3 h

/-- An EVENT frame (R167, section 12.5). -/
def eventFrame (e : Event) : Frame :=
  makeFrame 64 kindEvent
    ([e.kind.code] ++ beBytes 2 e.source ++ beBytes 6 e.uptime ++ padTo 8 e.detail)

/-! ### Journal records (section 12.6) -/

def DispenseRecord.flags (r : DispenseRecord) : Byte :=
  (if r.reverse then 1 else 0) ||| (if r.saturated then 2 else 0) ||| (if r.tempHeld then 4 else 0) |||
    (if r.clamped then 8 else 0) ||| (if r.overrun then 16 else 0)

/-- The 50 bytes of a DISPENSE record. -/
def DispenseRecord.bytes (r : DispenseRecord) : List Byte :=
  [1] ++ beBytes 4 r.number ++
    [BitVec.ofNat 8 r.point.val, BitVec.ofNat 8 r.product.val, BitVec.ofNat 8 r.tank.val, r.source.code] ++
    beBytes 2 r.account ++ beBytes 4 r.tag ++
    (match r.run with
      | none => [0, 0]
      | some (id, step) => beBytes 1 id ++ beBytes 1 step) ++
    optBytes 4 r.hour ++ [r.hourResult.code] ++ beBytes 4 r.limit ++ [r.governing.code] ++
    beBytes 4 r.gross ++ beBytes 4 r.net ++ beBytes 1 r.segCount ++ beBytesInt 2 r.lastTemp ++
    beBytes 4 r.startTime ++ beBytes 4 r.endTime ++ flagByte r.timeValid ++ [endCauseCode r.endCause, r.flags]

/-- The 37 bytes of a DELIVERY record. -/
def DeliveryRecord.bytes (r : DeliveryRecord) : List Byte :=
  [2] ++ beBytes 4 r.number ++ beBytes 2 r.reference ++ beBytes 4 r.tanker ++
    [BitVec.ofNat 8 r.tank.val, BitVec.ofNat 8 r.product.val] ++ beBytes 4 r.permitted ++ beBytes 4 r.gross ++
    beBytes 4 r.net ++ beBytesInt 2 r.lastTemp ++ beBytes 4 r.startTime ++ beBytes 4 r.endTime ++
    flagByte r.timeValid ++ [r.endCause.code]

def Record.bytes : Record → List Byte
  | .dispense r => r.bytes
  | .delivery r => r.bytes

def Record.number : Record → Nat
  | .dispense r => r.number
  | .delivery r => r.number

end Sys2Proof.Machine
end

