-- ==== Sys2Proof/Machine/Ops.lean ====
section
/-! DEFINITION. The named operations over the state's blocks, tables, counters and queues. -/

namespace Sys2Proof.Machine

/-! ### Blocks: one update each -/

def State.setPending (s : State) (x : List Instr) : State := { s with pending := x }
def State.setClock (s : State) (x : Nat) : State := { s with clock := x }
def State.setChoices (s : State) (x : Nat) : State := { s with choices := x }
def State.setSpt (s : State) (x : Spt) : State := { s with spt := x }
def State.setFsm (s : State) (x : Fsm) : State := { s with fsm := x }
def State.setFcl (s : State) (x : Fcl) : State := { s with fcl := x }
def State.setMtc (s : State) (x : Mtc) : State := { s with mtc := x }
def State.setVau (s : State) (x : Vau) : State := { s with vau := x }
def State.setDpt (s : State) (x : Dpt) : State := { s with dpt := x }
def State.setSrs (s : State) (x : Srs) : State := { s with srs := x }
def State.setMac (s : State) (x : Mac) : State := { s with mac := x }
def State.setTks (s : State) (x : Tks) : State := { s with tks := x }
def State.setSsd (s : State) (x : Ssd) : State := { s with ssd := x }
def State.setJev (s : State) (x : Jev) : State := { s with jev := x }
def State.setMgt (s : State) (x : Mgt) : State := { s with mgt := x }

/-! ### Numbered records: one read and one write each -/

def State.entry (s : State) (e : Fin 32) : Option PollEntry := s.fsm.entries[e.val]
def State.setEntry (s : State) (e : Fin 32) (x : Option PollEntry) : State :=
  s.setFsm { s.fsm with entries := upd s.fsm.entries e x }

def State.channel (s : State) (c : Fin 8) : Channel := s.mtc.channels[c.val]
def State.setChannel (s : State) (c : Fin 8) (x : Channel) : State :=
  s.setMtc { s.mtc with channels := upd s.mtc.channels c x }

def State.product (s : State) (p : Fin 6) : Option Product := s.vau.products[p.val]

def State.point (s : State) (p : Fin 8) : Point := s.dpt.points[p.val]
def State.setPoint (s : State) (p : Fin 8) (x : Point) : State :=
  s.setDpt { s.dpt with points := upd s.dpt.points p x }

def State.pump (s : State) (p : Fin 4) : Pump := s.dpt.pumps[p.val]
def State.setPump (s : State) (p : Fin 4) (x : Pump) : State :=
  s.setDpt { s.dpt with pumps := upd s.dpt.pumps p x }

def State.slot (s : State) (k : Fin 4) : Option Run := s.srs.slots[k.val]
def State.setSlot (s : State) (k : Fin 4) (x : Option Run) : State :=
  s.setSrs { s.srs with slots := upd s.srs.slots k x }

def State.cls (s : State) (c : Fin 16) : ClassRecord := s.mac.classes[c.val]

def State.tank (s : State) (t : Fin 8) : Tank := s.tks.tanks[t.val]
def State.setTank (s : State) (t : Fin 8) (x : Tank) : State :=
  s.setTks { s.tks with tanks := upd s.tks.tanks t x }

def State.order (s : State) (o : Fin 16) : Option Order := s.tks.orders[o.val]
def State.setOrder (s : State) (o : Fin 16) (x : Option Order) : State :=
  s.setTks { s.tks with orders := upd s.tks.orders o x }

def State.spill (s : State) (i : Fin 8) : Spill := s.ssd.spills[i.val]
def State.setSpill (s : State) (i : Fin 8) (x : Spill) : State :=
  s.setSsd { s.ssd with spills := upd s.ssd.spills i x }

def State.loop (s : State) (l : Fin 2) : EstopLoop := s.ssd.loops[l.val]
def State.setLoop (s : State) (l : Fin 2) (x : EstopLoop) : State :=
  s.setSsd { s.ssd with loops := upd s.ssd.loops l x }

def State.sump (s : State) (k : Fin 4) : Sump := s.ssd.sumps[k.val]
def State.setSump (s : State) (k : Fin 4) (x : Sump) : State :=
  s.setSsd { s.ssd with sumps := upd s.ssd.sumps k x }

def State.cause (s : State) (k : CauseKey) : Option CauseEntry := s.ssd.causes[k.place.val]
def State.setCause (s : State) (k : CauseKey) (x : Option CauseEntry) : State :=
  s.setSsd { s.ssd with causes := upd s.ssd.causes k.place x }

/-! ### All the numbers of a table, in increasing order -/

def all2 : List (Fin 2) := [0, 1]
def all4 : List (Fin 4) := [0, 1, 2, 3]
def all6 : List (Fin 6) := [0, 1, 2, 3, 4, 5]
def all8 : List (Fin 8) := [0, 1, 2, 3, 4, 5, 6, 7]
def all16 : List (Fin 16) := [0, 1, 2, 3, 4, 5, 6, 7, 8, 9, 10, 11, 12, 13, 14, 15]
def all32 : List (Fin 32) :=
  [0, 1, 2, 3, 4, 5, 6, 7, 8, 9, 10, 11, 12, 13, 14, 15, 16, 17, 18, 19, 20, 21, 22, 23, 24, 25, 26, 27, 28, 29,
   30, 31]

/-- The 39 keys of the cause set, in the order of section 9.4 (R160). -/
def allCauses : List CauseKey :=
  all2.map .estop ++ all8.map .spill ++ all4.map .sumpHigh ++ all4.map .sumpHighHigh ++ all4.map .sumpStale ++
    all8.map .unauthorisedFlow ++ all8.map .lineLoss ++ [.siteStop]

/-- Do `f` for each number of `l` in turn. -/
def each {α : Type} (l : List α) (f : State → α → State) (s : State) : State := l.foldl f s

/-! ### Accounts: a list of (slot, account), slots rising -/

/-- The account a slot holds. -/
def lookupSlot (slot : Nat) : List (Nat × Account) → Option Account
  | [] => none
  | (k, a) :: rest => if k = slot then some a else lookupSlot slot rest

/-- Hold `a` in a slot, keeping the slots rising. -/
def putSlot (slot : Nat) (a : Account) : List (Nat × Account) → List (Nat × Account)
  | [] => [(slot, a)]
  | (k, b) :: rest =>
    if slot < k then (slot, a) :: (k, b) :: rest
    else if slot = k then (slot, a) :: rest
    else (k, b) :: putSlot slot a rest

/-- Empty a slot. -/
def dropSlot (slot : Nat) (l : List (Nat × Account)) : List (Nat × Account) := l.filter (fun e => e.1 ≠ slot)

def State.account (s : State) (slot : Nat) : Option Account := lookupSlot slot s.mac.accounts
def State.setAccount (s : State) (slot : Nat) (a : Account) : State :=
  s.setMac { s.mac with accounts := putSlot slot a s.mac.accounts }

/-! ### Time (section 6 of the scope file, R177) -/

/-- Milliseconds since the end of the last reset. -/
def State.ms (s : State) : Nat := s.clock / Config.usPerMs

/-- Uptime, held in 48 bits (section 11.4). -/
def State.uptime (s : State) : Nat := s.ms % 2 ^ 48

/-- A time as records take it: wall time, or uptime in seconds while time-valid is clear (R177). -/
def State.stamp (s : State) : Nat := if s.mgt.timeValid then s.mgt.wall.toNat else s.uptime / 1000

/-! ### Saturating counts (section 6 of the scope file) -/

def satInc (bound n : Nat) : Nat := min (n + 1) bound
def inc8 (n : Nat) : Nat := satInc 255 n
def inc16 (n : Nat) : Nat := satInc 65535 n
def inc32 (n : Nat) : Nat := satInc 4294967295 n

/-- A volume sum, saturating at 4,000,000,000 cL. -/
def satAdd (a b : Nat) : Nat := min (a + b) Config.volumeBound

/-- Change the site port's counters (R17). -/
def State.countSite (s : State) (f : SiteCounters → SiteCounters) : State :=
  s.setSpt { s.spt with counters := f s.spt.counters }

/-- Change the field port's counters (R17). -/
def State.countField (s : State) (f : FieldCounters → FieldCounters) : State :=
  s.setFsm { s.fsm with counters := f s.fsm.counters }

def siteDrop (c : SiteCounters) : SiteCounters := { c with drops := inc16 c.drops }
def forwardDrop (c : FieldCounters) : FieldCounters := { c with forwardDrops := inc16 c.forwardDrops }
def roleError (c : FieldCounters) : FieldCounters := { c with roleErrors := inc16 c.roleErrors }
def unclassified (c : FieldCounters) : FieldCounters := { c with unclassified := inc16 c.unclassified }
def unsolicited (c : FieldCounters) : FieldCounters := { c with unsolicited := inc16 c.unsolicited }
def pollMiss (c : FieldCounters) : FieldCounters := { c with pollMisses := inc16 c.pollMisses }

/-! ### Events (R166) -/

/-- What JEV does with an event: masked, queued or lost (R166). -/
def Jev.take (j : Jev) (e : Event) : Jev :=
  match e.kind.group with
  | some g =>
    if j.masks[g.val] then { j with pendings := upd j.pendings g true }
    else if j.queue.length < Config.eventQueueSize then { j with queue := j.queue ++ [e] }
    else { j with lost := true }
  | none =>
    if j.queue.length < Config.eventQueueSize then { j with queue := j.queue ++ [e] } else { j with lost := true }

/-- Raise an event with its source index and detail (R166); the detail is filled to 8 bytes. -/
def State.raise (s : State) (kind : EventKind) (source : Nat) (detail : List Byte) : State :=
  s.setJev (s.jev.take { kind := kind, source := source, uptime := s.uptime, detail := padTo 8 detail })

/-! ### The site transmit queue (R7, R8) -/

/-- A forwarded field frame claims a place or is dropped (R8). -/
def State.offerSite (s : State) (f : Frame) : State :=
  if s.spt.tx.length < Config.siteTxSize then s.setSpt { s.spt with tx := s.spt.tx ++ [f] }
  else s.countSite siteDrop

/-- The head of the site receive buffer is a management request waiting for a place; none is served while a soft
reset waits (R6, R179). -/
def State.managementWaits (s : State) : Bool :=
  match s.mgt.softReset, s.spt.rx with
  | none, f :: _ => decide (frameDest f = 0) && decide (frameKind f = kindRequest)
  | _, _ => false

/-- The head of the event queue waits for a place (R167). -/
def State.eventWaits (s : State) : Bool := !s.jev.queue.isEmpty

/-- Both wait and one place is free: the place is contested (R8, log 6). -/
def State.contested (s : State) : Bool :=
  s.managementWaits && s.eventWaits && decide (s.spt.tx.length + 1 = Config.siteTxSize)

/-- A waiter can claim a place (R8). -/
def State.canClaim (s : State) (w : Waiter) : Bool :=
  decide (s.spt.tx.length < Config.siteTxSize) && (!s.contested || decide (s.spt.lastContested ≠ w))

/-- The arbiter's record after `w` claims a place (R8). -/
def State.claim (s : State) (w : Waiter) : State :=
  if s.contested then s.setSpt { s.spt with lastContested := w } else s

/-! ### The field forward queue (R9, R10) -/

def ForwardSort.isSite : ForwardSort → Bool
  | .site _ => true
  | .panelStatus => false

def ForwardSort.isGated : ForwardSort → Bool
  | .site g => g
  | .panelStatus => false

/-- Offer a site frame: joins, or is dropped at a full queue (R10). -/
def State.offerForward (s : State) (f : Frame) (gated : Bool) : State :=
  if s.fsm.queue.length < Config.forwardSize then
    s.setFsm { s.fsm with queue := s.fsm.queue ++ [{ frame := f, sort := .site gated, joined := s.ms }] }
  else s.countField forwardDrop

/-- Room made by a PANEL_STATUS frame in a full queue: the oldest site frame goes, else the oldest frame (R10). -/
def displace (q : List Forward) : List Forward :=
  if q.any (fun f => f.sort.isSite) then q.eraseP (fun f => f.sort.isSite) else q.drop 1

/-- Offer a PANEL_STATUS frame, which a full queue makes room for (R10). -/
def State.offerPanel (s : State) (f : Frame) : State :=
  let x : Forward := { frame := f, sort := .panelStatus, joined := s.ms }
  if s.fsm.queue.length < Config.forwardSize then s.setFsm { s.fsm with queue := s.fsm.queue ++ [x] }
  else (s.setFsm { s.fsm with queue := displace s.fsm.queue ++ [x] }).countField forwardDrop

/-- Remove the gated frames at a rise from NORMAL, each counted as a forward drop (R11). -/
def State.purgeGated (s : State) : State :=
  let gone := s.fsm.queue.filter (fun f => f.sort.isGated)
  (s.setFsm { s.fsm with queue := s.fsm.queue.filter (fun f => !f.sort.isGated) }).countField
    (fun c => { c with forwardDrops := min (c.forwardDrops + gone.length) 65535 })

/-! ### The journal (R162, R163) -/

/-- Record numbers have run out: a further place would have none, or they had run out before a line reset (R163,
R171). -/
def Jev.exhausted (j : Jev) : Bool := j.spent || decide (Config.lastRecordNumber < j.nextNumber + j.reserved)

/-- No place can be reserved: 256 places are taken or record numbers have run out (R163). -/
def Jev.isFull (j : Jev) : Bool :=
  decide (Config.journalSize ≤ j.journal.length + j.reserved) || j.exhausted

/-- Reserve a place (R163). -/
def State.reservePlace (s : State) : State := s.setJev { s.jev with reserved := s.jev.reserved + 1 }

/-- Append a record in a reserved place, under the next record number (R162). -/
def State.append (s : State) (r : Nat → Record) : State :=
  s.setJev { s.jev with
    journal := s.jev.journal ++ [r s.jev.nextNumber], nextNumber := s.jev.nextNumber + 1,
    reserved := s.jev.reserved - 1 }

/-- A refusal with JOURNAL_FULL reported to JEV (R163). -/
def State.reportFull (s : State) : State :=
  if s.jev.fullReported then s
  else
    (s.setJev { s.jev with fullReported := true }).raise .journalFull noSource
      (beBytes 2 s.jev.journal.length ++ beBytes 2 s.jev.reserved)

/-! ### Freshness of station data (section 2.3) -/

/-- The entry's data is fresh at `ms` (section 2.3). -/
def PollEntry.isFresh (e : PollEntry) (ms : Nat) : Bool :=
  match e.dataTime with
  | none => false
  | some d => decide (ms - d ≤ e.staleness * 1000)

/-- The data of a station is fresh: some entry holds its address and its data is fresh (section 2.3). -/
def State.stationFresh (s : State) (station : Nat) : Bool :=
  all32.any (fun e =>
    match s.entry e with
    | none => false
    | some x => decide (x.station = station) && x.isFresh s.ms)

end Sys2Proof.Machine
end

