-- ==== Sys2Proof/Machine/Arithmetic.lean ====
section
/-! DEFINITION. The volume arithmetic unit: exact computations, each with its one rounding step (R55 to R71, R46). -/

namespace Sys2Proof.Machine

/-- round(a / b) of a non-negative quotient, halves up (R55). A divisor of 0 gives 0; no rule divides by 0. -/
def roundNat (a b : Nat) : Nat := if b = 0 then 0 else (2 * a + b) / (2 * b)

/-- round(a / b), halves away from zero (R55). -/
def roundInt (a : Int) (b : Nat) : Int :=
  if a < 0 then -(roundNat a.natAbs b : Int) else (roundNat a.natAbs b : Int)

/-- Hold a volume at its bound (R55). -/
def capVolume (n : Nat) : Nat := min n Config.volumeBound

/-- Hold a temperature within -50.0 to +80.0 degrees (R58). -/
def clampTemp (t : Int) : Int := max (-500) (min 800 t)

/-- The temperature factor in ppm (R61). -/
def vcf (beta : Nat) (t : Int) : Nat := (1000000 - roundInt ((beta : Int) * (t - 150)) 10).toNat

/-- A volume corrected by a factor, before any bound (R63, R70, R71). -/
def corrected (volume factor : Nat) : Nat := roundNat (volume * factor) 1000000

/-- Gross volume from the net count C and K, before its bound (R57). -/
def grossOf (c : Int) (k : Nat) : Nat := if c < 0 then 0 else c.toNat * 100000 / k

/-- Flow rate in 0.1 L/min of a window count; absent while K is unset (R46). -/
def flowOf (w : Int) (k : Nat) : Option Nat :=
  if k = 0 then none else if w ≤ 0 then some 0 else some (roundNat (w.toNat * 600000) k)

/-! ### Strapping (R67 to R69) -/

/-- First point whose level is not above the level before it (R67). -/
def firstLevelFault : Nat → List StrapPoint → Option Nat
  | i, p :: q :: rest => if q.level ≤ p.level then some (i + 1) else firstLevelFault (i + 1) (q :: rest)
  | _, _ => none

/-- First point whose volume is below the volume before it (R67). -/
def firstVolumeFault : Nat → List StrapPoint → Option Nat
  | i, p :: q :: rest => if q.volume < p.volume then some (i + 1) else firstVolumeFault (i + 1) (q :: rest)
  | _, _ => none

/-- A strapping table is well formed (R67). -/
def wellFormedStrap : Option (List StrapPoint) → Bool
  | none => false
  | some ps => !ps.isEmpty && (firstLevelFault 0 ps).isNone && (firstVolumeFault 0 ps).isNone

/-- V(L) for a level at or above the first point: interpolation, and the last volume above the table (R68). -/
def strapFrom (l : Nat) : List StrapPoint → Nat
  | [] => 0
  | [p] => p.volume
  | p :: q :: rest =>
    if l < q.level then p.volume + roundNat ((q.volume - p.volume) * (l - p.level)) (q.level - p.level)
    else strapFrom l (q :: rest)

/-- V(L) (R68). -/
def strapVolume (ps : List StrapPoint) (l : Nat) : Nat :=
  match ps with
  | [] => 0
  | p :: _ => if l < p.level then p.volume else strapFrom l ps

/-- The first level of a table. -/
def firstLevel (ps : List StrapPoint) : Nat := (ps.head?.map (·.level)).getD 0

/-- The last level of a table. -/
def lastLevelOf (ps : List StrapPoint) : Nat := (ps.getLast?.map (·.level)).getD 0

/-- The last volume of a table. -/
def lastVolumeOf (ps : List StrapPoint) : Nat := (ps.getLast?.map (·.volume)).getD 0

/-- A level is clamped when it lies outside the table (R68). -/
def strapClamps (ps : List StrapPoint) (l : Nat) : Bool := decide (l < firstLevel ps) || decide (lastLevelOf ps < l)

/-- Observed volume of a sample (R69). -/
def observedVolume (ps : List StrapPoint) (level : Nat) (water : Option Nat) : Nat :=
  match water with
  | none => strapVolume ps level
  | some w => strapVolume ps level - strapVolume ps w

/-- STRAP_CLAMPED after a sample (R69). -/
def observedClamps (ps : List StrapPoint) (level : Nat) (water : Option Nat) : Bool :=
  strapClamps ps level || (match water with | none => false | some w => strapClamps ps w)

/-! ### The figures of a context (R57, R63) -/

/-- The current figures of a context. -/
structure Figures where
  /-- the net count C -/
  count : Int
  gross : Nat
  net : Nat
  /-- a bound was reached -/
  saturated : Bool
deriving DecidableEq, Repr

/-- C, G and N of a context whose channel counts `now` with factor `k` (R57, R63). -/
def figures (c : Context) (now : BitVec 32) (k : Nat) : Figures :=
  let count := (now - c.startCount).toInt
  let g := grossOf count k
  let gross := capVolume g
  let n := c.closedNet + (if c.segBase ≤ gross then corrected (gross - c.segBase) c.segVcf else 0)
  { count := count, gross := gross, net := capVolume n,
    saturated := decide (Config.volumeBound < g) || decide (Config.volumeBound < n) }

/-- The context with the flags its figures set (R57, R63). -/
def Context.flag (c : Context) (f : Figures) : Context :=
  { c with reverse := c.reverse || decide (f.count < 0), saturated := c.saturated || f.saturated }

/-- The figures of a point's context from its channel (R57, R63). -/
def State.figures (s : State) (p : Fin 8) (c : Context) : Figures :=
  Sys2Proof.Machine.figures c (s.channel p).count (s.channel p).config.k

/-- Close the context's segment and open a new one at temperature `t` (R64). -/
def Context.closeSegment (c : Context) (f : Figures) (t : Int) (factor : Nat) (clamped : Bool) : Context :=
  let c := c.flag f
  { c with closedNet := f.net, segBase := max c.segBase f.gross, segTemp := t, segVcf := factor,
           segCount := min (c.segCount + 1) 255, clamped := c.clamped || clamped }

/-- What is left of a context's commitment (R83). -/
def Context.remaining (c : Context) : Nat := c.limit - c.posted

end Sys2Proof.Machine
end

