-- ==== Sys2Proof/Machine/Flags.lean ====
section
/-! DEFINITION. The part's outputs, and the levels, states and bounds computed from the state. -/

namespace Sys2Proof.Machine

/-! ### Bay level (R155) -/

/-- The levels from lowest to highest (R155). -/
def Level.rank : Level → Nat
  | .normal => 0
  | .bayStop => 1
  | .isolate => 2

/-- The higher of two levels (R155). -/
def Level.higher (a b : Level) : Level := if a.rank < b.rank then b else a

/-- The highest level among the entries of a cause set, NORMAL for none (R155). -/
def highestLevel (causes : List (Option CauseEntry)) : Level :=
  causes.foldl (fun l e => match e with | none => l | some x => l.higher x.level) .normal

/-- The bay level that the cause set calls for (R155). -/
def State.calledLevel (s : State) : Level := highestLevel s.ssd.causes.toList

/-! ### Points and pumps (R73, R75) -/

/-- FAST or SLOW. -/
def PointState.flowing : PointState → Bool
  | .fast => true
  | .slow => true
  | _ => false

/-- AUTHORISED, FAST or SLOW. -/
def PointState.running : PointState → Bool
  | .authorised => true
  | .fast => true
  | .slow => true
  | _ => false

/-- Fast-valve output (R75). -/
def State.fastValve (s : State) (p : Fin 8) : Bool :=
  decide ((s.point p).state = .fast) && decide (s.ssd.level = .normal)

/-- Slow-valve output (R75). -/
def State.slowValve (s : State) (p : Fin 8) : Bool := (s.point p).state.flowing && decide (s.ssd.level = .normal)

/-- The point names the pump and flows. -/
def Point.drives (x : Point) (k : Fin 4) : Bool :=
  match x.config with
  | none => false
  | some c => decide (c.pump = k) && x.state.flowing

/-- Pump output (R73). -/
def State.pumpOutput (s : State) (k : Fin 4) : Bool :=
  all8.any (fun p => (s.point p).drives k) && decide (s.ssd.level = .normal)

/-- On-time of a pump in us that its run time does not yet hold (R73). -/
def State.pumpCarry (s : State) (k : Fin 4) : Nat :=
  (s.pump k).carried + (if (s.pump k).on then s.clock - (s.pump k).onSince else 0)

/-- A pump record after its output becomes `on` at `clock` (R73). -/
def Pump.drive (x : Pump) (on : Bool) (clock : Nat) : Pump :=
  if x.on = on then x
  else if on then { x with on := true, starts := inc32 x.starts, onSince := clock }
  else { x with on := false, carried := x.carried + (clock - x.onSince) }

/-- The pump records follow their outputs (R73). -/
def State.syncPumps (s : State) : State :=
  each all4 (fun s k => s.setPump k ((s.pump k).drive (s.pumpOutput k) s.clock)) s

/-! ### Inlet valves (R145) -/

/-- The tank's last level is below its high-high level (R145). -/
def Tank.belowHighHigh (x : Tank) : Bool :=
  match x.config, x.lastLevel with
  | some c, some l => decide (l < c.highHigh)
  | _, _ => false

/-- Inlet valve output (R145). -/
def State.inletValve (s : State) (t : Fin 8) : Bool :=
  let x := s.tank t
  x.delivery.isSome && decide (s.ssd.level ≠ .isolate) && decide (x.gauge = .valid) && x.belowHighHigh

/-! ### Horn (R157), LGT and RCL (R32, R34) -/

/-- Horn and beacon output (R157). -/
def State.horn (s : State) : Bool :=
  match s.ssd.level with
  | .normal => false
  | .bayStop => !s.ssd.silenced && s.ssd.hornOn
  | .isolate => !s.ssd.silenced

/-- Loan grant output (R32). -/
def State.lgt (s : State) : Bool := decide (s.fsm.loan = .lent)

/-- Recall output: the recall flag and LRQ together (R34). -/
def State.rcl (s : State) : Bool := s.fsm.recalled && s.fsm.lrq

/-! ### Tanks (R135, R136) -/

/-- Available volume, 0 while the book is UNSET (R136). -/
def Tank.available (x : Tank) : Nat :=
  match x.config, x.book with
  | some c, some b => (b - c.lockout - x.committed).toNat
  | _, _ => 0

/-- The state of a commissioned tank in service (R135). -/
def tankStateOf (c : TankConfig) (x : Tank) : TankState :=
  match x.book with
  | none => .unset
  | some b =>
    if b ≤ c.lockout then .lockedOut
    else if decide (x.gauge = .valid) && (match x.gaugedNet with | none => false | some g => decide (g ≤ c.lockout)) then
      .lockedOut
    else if b ≤ c.low then .low
    else .normal

/-- Hold a book in its range (R134). -/
def clampBook (b : Int) : Int := max (-4294967296) (min 4294967295 b)

/-- The default temperature of a tank's product; absent while the tank names no defined product (R59). A tank out of
service names none (log 15). -/
def State.defaultTemp (s : State) (x : Tank) : Option Int :=
  match x.config with
  | none => none
  | some c => (s.product c.product).map (·.defaultTemp)

/-- Expansion coefficient of a product; 0 for one not defined (log 15). -/
def State.beta (s : State) (p : Fin 6) : Nat :=
  match s.product p with
  | none => 0
  | some x => x.beta

/-- The product is FUEL (R119). -/
def State.isFuel (s : State) (p : Fin 6) : Bool :=
  match s.product p with
  | none => false
  | some x => decide (x.kind = .fuel)

/-! ### Segment (R20) -/

/-- The part drives the segment, so the field port does not receive (R1). -/
def State.driving (s : State) : Bool :=
  decide (s.clock < s.fsm.drivingUntil) ||
    (match s.fsm.exchange with
      | none => false
      | some .forward => true
      | some (.poll x) => x.deadline.isNone)

/-- Commissioned (R175). -/
def State.commissioned (s : State) : Bool := decide (s.mgt.commission = .commissioned)

end Sys2Proof.Machine
end

