-- ==== Sys2Proof/Machine/Accounts.lean ====
section
/-! DEFINITION. Machine accounts: lookup, allowances, hour plausibility, burn rate and services (chapter 7). -/

namespace Sys2Proof.Machine

/-- The slot and account that hold a tag (R119). -/
def findTag (tag : Nat) (l : List (Nat × Account)) : Option (Nat × Account) := l.find? (fun e => e.2.tag = tag)

/-- The allowance entry for a product (R119). -/
def Account.entryFor (a : Account) (p : Fin 6) : Option Allowance := a.allowances.find? (fun e => e.product = p)

/-- Change the allowance entry for a product. -/
def Account.modEntry (a : Account) (p : Fin 6) (f : Allowance → Allowance) : Account :=
  { a with allowances := a.allowances.map (fun e => if e.product = p then f e else e) }

/-- Change the account of a slot, if it holds one. -/
def State.modAccount (s : State) (slot : Nat) (f : Account → Account) : State :=
  match s.account slot with
  | none => s
  | some a => s.setAccount slot (f a)

/-- Allowance remaining, for an entry whose allowance is present (R116). -/
def Allowance.left (e : Allowance) : Option Nat := e.allowance.map (fun v => v - e.used - e.committed)

/-- The used amount after a posting (R116). -/
def postUsed (used : Nat) (delta : Int) : Nat := min ((used : Int) + delta).toNat Config.volumeBound

/-! ### Services (R125) -/

/-- Hours since the last service, when both readings are present (R125). -/
def sinceService (lastAccepted hoursAtLast : Option Nat) : Option Int :=
  match lastAccepted, hoursAtLast with
  | some l, some h => some ((l : Int) - h)
  | _, _ => none

/-- State of a service record (R125). -/
def serviceStateOf (lastAccepted : Option Nat) (v : Service) : ServiceState :=
  match sinceService lastAccepted v.hoursAtLast with
  | none => .ok
  | some since =>
    if since < 0 then .ok
    else if (v.interval : Int) * 12 ≤ since * 10 then .overdue
    else if (v.interval : Int) ≤ since then .due
    else if (v.interval : Int) * 9 ≤ since * 10 then .dueSoon
    else .ok

/-- A service record evaluated (R125). -/
def Service.evaluate (v : Service) (lastAccepted : Option Nat) : Service :=
  { v with state := serviceStateOf lastAccepted v }

/-- Every service record evaluated, raising nothing (R114, R126). -/
def Account.evaluateServices (a : Account) : Account :=
  { a with services := a.services.map (fun v => v.evaluate a.hours.lastAccepted) }

/-- The events of one record's evaluation after an ACCEPTED reading (R125). -/
def serviceEvents (slot : Nat) (lastAccepted : Option Nat) (s : State) (i : Nat) (before after : Service) : State :=
  let detail := [BitVec.ofNat 8 i, BitVec.ofNat 8 after.product.val] ++
    beBytesInt 3 ((sinceService lastAccepted after.hoursAtLast).getD 0)
  let below := before.state = .ok ∨ before.state = .dueSoon
  let s := if below ∧ (after.state = .due ∨ after.state = .overdue) then s.raise .serviceDue slot detail else s
  if before.state ≠ .overdue ∧ after.state = .overdue then s.raise .serviceOverdue slot detail else s

/-- The events of the records of a list, from index `i`, record by record, the lower index first (R125, log 10). -/
def serviceEventsFrom (slot : Nat) (lastAccepted : Option Nat) : Nat → List Service → State → State
  | _, [], s => s
  | i, v :: rest, s =>
    serviceEventsFrom slot lastAccepted (i + 1) rest (serviceEvents slot lastAccepted s i v (v.evaluate lastAccepted))

/-! ### Hour readings (R120 to R122) -/

/-- Elapsed hours E in 0.1 h, when known (R120). -/
def State.elapsedHours (s : State) (h : HourRecord) : Option Nat :=
  match s.mgt.timeValid, h.wallTime with
  | true, some w => some ((s.mgt.wall - w).toInt.toNat / 360)
  | _, _ => none

/-- The judgement of a reading (R121). -/
def judgeHour (h : HourRecord) (elapsed : Option Nat) (tolerance reading : Nat) : HourResult :=
  match h.lastAccepted with
  | none => .accepted
  | some last =>
    if reading < last then .regression
    else if reading = last then .confirmed
    else
      match elapsed with
      | some e => if last + e + tolerance < reading then .jump else .accepted
      | none => .accepted

/-- A rejected reading (R121). -/
def HourResult.rejected : HourResult → Bool
  | .regression => true
  | .jump => true
  | _ => false

/-- The pending reading after an accepted or confirmed reading (R121). -/
def raisePending (pending : Option Nat) (reading : Nat) : Option Nat :=
  match pending with
  | none => some reading
  | some p => some (max p reading)

/-- The hour record after a judged reading (R121). -/
def HourRecord.apply (h : HourRecord) (result : HourResult) (reading : Nat) (now : Option (BitVec 32)) : HourRecord :=
  match result with
  | .accepted =>
    { h with lastAccepted := some reading, wallTime := now, pending := raisePending h.pending reading }
  | .confirmed => { h with pending := raisePending h.pending reading }
  | .regression => { h with rejected := inc8 h.rejected }
  | .jump => { h with rejected := inc8 h.rejected }
  | .none => h

/-- The clock as a wall time is taken from it: absent while it is not valid (R121). -/
def State.wallNow (s : State) : Option (BitVec 32) := if s.mgt.timeValid then some s.mgt.wall else none

/-- A reading offered to MAC at check 10, with its effects on the account (R121). -/
def State.offerHour (s : State) (slot : Nat) (a : Account) (point : Fin 8) (reading : Nat) : State × HourResult :=
  let result := judgeHour a.hours (s.elapsedHours a.hours) (s.cls a.cls).tolerance reading
  let b := { a with hours := a.hours.apply result reading s.wallNow }
  let out :=
    match result with
    | .accepted =>
      serviceEventsFrom slot b.hours.lastAccepted 0 b.services (s.setAccount slot b.evaluateServices)
    | .regression | .jump =>
      (s.setAccount slot b).raise .hourRejected slot
        ([BitVec.ofNat 8 point.val] ++ beBytes 3 reading ++ hourBytes a.hours.lastAccepted ++ [result.code])
    | _ => s.setAccount slot b
  (out, result)

/-! ### A completed transaction (R123 to R126) -/

/-- The burn rate after a sample in the band (R124). -/
def smoothBurn (rate : Option Nat) (sample : Nat) : Nat :=
  match rate with
  | none => sample
  | some r => ((r : Int) + roundInt ((sample : Int) - r) 4).toNat

/-- The burn step for a pending reading P (R124). -/
def State.burnStep (s : State) (slot : Nat) (a : Account) (p : Nat) : State :=
  let h := a.hours
  let c := s.cls a.cls
  match h.anchor with
  | none => s.setAccount slot { a with hours := { h with anchor := some p, fuel := 0 } }
  | some anchor =>
    if p < anchor + c.minSpan then s
    else
      let sample := min (roundNat h.fuel (p - anchor)) 65535
      if c.bandMin ≤ sample ∧ sample ≤ c.bandMax then
        s.setAccount slot
          { a with hours := { h with anchor := some p, fuel := 0, burnRate := some (smoothBurn h.burnRate sample) } }
      else
        (s.setAccount slot { a with hours := { h with anchor := some p, fuel := 0 } }).raise .burnRateAnomaly slot
          (beBytes 2 sample ++ beBytes 3 (p - anchor))

/-- One service record at a completion of `product` with net `n` (R126). -/
def Service.completed (v : Service) (product : Fin 6) (n : Nat) (lastAccepted : Option Nat) : Service :=
  if v.product = product ∧ v.minVolume ≤ n then
    match lastAccepted with
    | none => v
    | some l => ({ v with hoursAtLast := some l } : Service).evaluate lastAccepted
  else v

/-- The SERVICE_DONE events of the records from index `i`, the lower index first (R126, log 10). -/
def serviceDoneFrom (slot : Nat) (product : Fin 6) (n : Nat) (lastAccepted : Option Nat) :
    Nat → List Service → State → State
  | _, [], s => s
  | i, v :: rest, s =>
    serviceDoneFrom slot product n lastAccepted (i + 1) rest
      (if v.product = product ∧ v.minVolume ≤ n then
        s.raise .serviceDone slot ([BitVec.ofNat 8 i, BitVec.ofNat 8 product.val] ++ hourBytes lastAccepted)
      else s)

/-- Fuel since anchor after a completion (R123 step 1). -/
def Account.addFuel (a : Account) (fuel : Bool) (n : Nat) : Account :=
  if fuel then { a with hours := { a.hours with fuel := satAdd a.hours.fuel n } } else a

/-- The burn step when the account has come to rest with a pending reading (R123 step 2). -/
def State.burnAtRest (s : State) (slot : Nat) : State :=
  match s.account slot with
  | none => s
  | some a =>
    if a.openCount = 0 then
      match a.hours.pending with
      | none => s
      | some p =>
        (s.burnStep slot a p).modAccount slot (fun a => { a with hours := { a.hours with pending := none } })
    else s

/-- Service completion (R123 step 3, R126). -/
def State.completeServices (s : State) (slot : Nat) (product : Fin 6) (n : Nat) : State :=
  match s.account slot with
  | none => s
  | some a =>
    serviceDoneFrom slot product n a.hours.lastAccepted 0 a.services
      (s.setAccount slot
        { a with services := a.services.map (fun v => v.completed product n a.hours.lastAccepted) })

/-- MAC's processing of a completion (R123). -/
def State.accountCompletion (s : State) (slot : Nat) (product : Fin 6) (n : Nat) : State :=
  ((s.modAccount slot (fun a => a.addFuel (s.isFuel product) n)).burnAtRest slot).completeServices slot product n

end Sys2Proof.Machine
end

