-- ==== Sys2Proof/Machine/Tanks.lean ====
section
/-! DEFINITION. Tank stock: the tank's state, its book, its gauge and the end of a delivery (chapter 8). -/

namespace Sys2Proof.Machine

/-- Change a tank. -/
def State.modTank (s : State) (t : Fin 8) (f : Tank → Tank) : State := s.setTank t (f (s.tank t))

/-- Change the context of a point, if one is open. -/
def State.modContext (s : State) (p : Fin 8) (f : Context → Context) : State :=
  match (s.point p).context with
  | none => s
  | some c => s.setPoint p { s.point p with context := some (f c) }

/-- Reader station of a point, in service or not (R15, R72). -/
def Point.reader (x : Point) : Nat :=
  match x.config with
  | none => num x.idle 4 1
  | some c => c.reader

/-- Panel station of a point, in service or not (R15, R72). -/
def Point.panel (x : Point) : Nat :=
  match x.config with
  | none => num x.idle 5 1
  | some c => c.panel

/-- The point has an open context drawing from the tank (R60). -/
def Point.drawsFrom (x : Point) (t : Fin 8) : Bool :=
  match x.config, x.context with
  | some c, some _ => decide (c.tank = t)
  | _, _ => false

/-- The state that R135 gives a tank now; UNSET while UNCOMMISSIONED or out of service. -/
def State.tankStateNow (s : State) (t : Fin 8) : TankState :=
  match s.commissioned, (s.tank t).config with
  | true, some c => tankStateOf c (s.tank t)
  | _, _ => .unset

/-- Evaluate a tank's state, raising nothing (R130). -/
def State.settleTank (s : State) (t : Fin 8) : State := s.modTank t (fun x => { x with state := s.tankStateNow t })

/-- Evaluate a tank's state (R135). A move into LOCKED_OUT is noted in `lockouts`, to be reported to the points
once the event has been taken in full (R136). -/
def State.evalTank (s : State) (t : Fin 8) : State :=
  let old := (s.tank t).state
  let new := s.tankStateNow t
  let book := beBytesInt 5 (((s.tank t).book).getD 0)
  let s := s.settleTank t
  if new = .low ∧ (old = .normal ∨ old = .unset) then s.raise .tankLow t.val book
  else if new = .lockedOut ∧ old ≠ .lockedOut then
    (s.setTks { s.tks with lockouts := s.tks.lockouts ++ [t] }).raise .tankLockout t.val book
  else s

/-- Add a signed amount to a book that is present (R134) and evaluate the state (R135). -/
def State.postBook (s : State) (t : Fin 8) (delta : Int) : State :=
  (s.modTank t (fun x => { x with book := x.book.map (fun b => clampBook (b + delta)) })).evalTank t

/-- The entry that holds an order reference. -/
def State.findOrder (s : State) (reference : Nat) : Option (Fin 16) :=
  all16.find? (fun o => match s.order o with | none => false | some x => decide (x.reference = reference))

/-- The DELIVERY record of an order (R143 step 3). -/
def Order.toRecord (x : Order) (cause : DeliveryEnd) (endTime : Nat) (endValid : Bool) (number : Nat) : Record :=
  .delivery { number := number, reference := x.reference, tanker := x.tanker, tank := x.tank, product := x.product,
              permitted := x.permitted, gross := x.gross, net := x.net, lastTemp := x.lastTemp,
              startTime := x.startTime, endTime := endTime, timeValid := x.startValid && endValid,
              endCause := cause }

/-- End the order in an entry (R143). -/
def State.endOrder (s : State) (o : Fin 16) (x : Order) (cause : DeliveryEnd) : State :=
  let number := s.jev.nextNumber
  let stamp := s.stamp
  let s := s.append (x.toRecord cause stamp s.mgt.timeValid)
  let s := s.setOrder o
    (some { x with state := .ended, endTime := stamp, endCause := some (.ended cause), record := some number })
  let s := s.modTank x.tank (fun y => { y with delivery := none })
  s.raise .deliveryEnd x.reference ([BitVec.ofNat 8 x.tank.val, cause.code] ++ beBytes 4 number)

/-- End the open delivery of a tank, if there is one (R143, R144). -/
def State.endDelivery (s : State) (t : Fin 8) (cause : DeliveryEnd) : State :=
  match (s.tank t).delivery with
  | none => s
  | some reference =>
    match s.findOrder reference with
    | none => s
    | some o =>
      match s.order o with
      | none => s
      | some x => s.endOrder o x cause

/-- End every open delivery, in tank order (R144, R146). -/
def State.endDeliveries (s : State) (cause : DeliveryEnd) : State := each all8 (fun s t => s.endDelivery t cause) s

/-- A move of the gauge out of VALID reported to DPT and to an open delivery (R131, R59, R144). -/
def State.gaugeLeftValid (s : State) (t : Fin 8) : State :=
  (each all8 (fun s p =>
    if (s.point p).drawsFrom t then s.modContext p (fun c => { c with tempHeld := true }) else s) s).endDelivery t
    .gaugeLost

/-- Gauge events are raised while COMMISSIONED and the tank in service (R131). -/
def State.gaugeEvent (s : State) (t : Fin 8) (kind : EventKind) : State :=
  if s.commissioned ∧ (s.tank t).config.isSome then s.raise kind t.val [] else s

/-- A gauge that becomes STALE or FAULT: its event, its move out of VALID, and the tank's state (R131, R135). That the
event comes before the DELIVERY_END of the delivery that the move ends is the model's choice (log 10). -/
def State.gaugeMoves (s : State) (t : Fin 8) (g : GaugeState) (kind : EventKind) : State :=
  let old := (s.tank t).gauge
  if old = g then s
  else
    let s := (s.modTank t (fun x => { x with gauge := g })).gaugeEvent t kind
    let s := if old = .valid then s.gaugeLeftValid t else s
    s.evalTank t

/-- A report that the data of the tank's gauge station has become stale (R131). -/
def State.gaugeStale (s : State) (t : Fin 8) : State := s.gaugeMoves t .stale .gaugeStale

/-- A sample with status FAULT acted on (R132). -/
def State.gaugeFault (s : State) (t : Fin 8) : State := s.gaugeMoves t .fault .gaugeFault

/-- A tank's temperature after a write of its record or of its product, whose default is now `default`: absent while
no defined product is named; in DEFAULT the default; in SAMPLE as it stands, or once more the last sample's where an
undefined product had left it absent (R58, R59, log 15). -/
def Tank.refreshTemp (x : Tank) (default : Option Int) : Tank :=
  match default, x.source with
  | none, .default => { x with applied := none, clamped := false }
  | none, .sample => { x with applied := none }
  | some d, .default => { x with applied := some d, clamped := false }
  | some _, .sample => { x with applied := x.applied.or (x.lastTemp.map clampTemp) }

/-- The applied temperature of a tank brought up to date with its record and its product (R59, R129). -/
def State.refreshTemp (s : State) (t : Fin 8) : State := s.modTank t (fun x => x.refreshTemp (s.defaultTemp x))

/-- The return of every applied temperature to the default that a reset makes (R59). -/
def State.resetTemps (s : State) : State :=
  each all8 (fun s t => s.modTank t (fun x =>
    { x with applied := s.defaultTemp x, source := .default, clamped := false, strapClamped := false })) s

end Sys2Proof.Machine
end

