-- ==== Sys2Proof/Machine/Points.lean ====
section
/-! DEFINITION. Dispense points: panel frames, ends, commitments, postings and authorisation (chapter 5). -/

namespace Sys2Proof.Machine

/-! ### Panel status frames (R96, section 12.2) -/

/-- Net, limit and governing code that a PANEL_STATUS frame carries (R96). -/
def State.panelFigures (s : State) (p : Fin 8) : Nat × Nat × Byte :=
  match (s.point p).context with
  | some c => ((s.figures p c).net, c.limit, c.governing.code)
  | none =>
    if (s.point p).state = .uncommissioned then (0, 0, 0)
    else ((s.point p).lastNet, (s.point p).lastLimit, governingCode (s.point p).lastGoverning)

/-- The 12 bytes of a PANEL_STATUS frame (section 12.2). -/
def State.panelPayload (s : State) (p : Fin 8) : List Byte :=
  let f := s.panelFigures p
  [BitVec.ofNat 8 p.val, (s.point p).state.code, refusalCode (s.point p).refusal] ++ beBytes 4 f.1 ++
    beBytes 4 f.2.1 ++ [f.2.2]

/-- Take the current figures of the point's context, which sets its flags (R57, R63). -/
def State.takeFigures (s : State) (p : Fin 8) : State := s.modContext p (fun c => c.flag (s.figures p c))

/-- Offer a PANEL_STATUS frame for the point; a panel station of 0 is sent none (R96). -/
def State.sendPanel (s : State) (p : Fin 8) : State :=
  if (s.point p).panel = 0 then s
  else
    let s := s.takeFigures p
    (s.setPoint p { s.point p with statusFrom := s.clock }).offerPanel
      (makeFrame (s.point p).panel kindPanelStatus (s.panelPayload p))

/-- Change a point's state: the pumps follow and a frame reports it (R73, R75, R96). -/
def State.enterState (s : State) (p : Fin 8) (x : PointState) : State :=
  ((s.setPoint p { s.point p with state := x }).syncPumps).sendPanel p

/-- An end taken at a point: from AUTHORISED, FAST or SLOW it goes to STOPPING with this cause and the settle
begins; in every other state the end is ignored (R92 to R94). -/
def State.toStopping (s : State) (p : Fin 8) (cause : EndCause) : State :=
  if (s.point p).state.running then
    (s.modContext p (fun c =>
      { c with endCause := some cause, stoppingAt := s.clock, quietFrom := s.clock })).enterState p .stopping
  else s

/-- Report the lockouts of this event to the points (R136, R92): the tanks in the order they moved, the points of
each 0 to 7 (log 10). -/
def State.reportLockouts (s : State) : State :=
  let tanks := s.tks.lockouts
  each tanks (fun s t =>
    each all8 (fun s p => if (s.point p).drawsFrom t then s.toStopping p .tankLockout else s) s)
    (s.setTks { s.tks with lockouts := [] })

/-- The answer of an event that may have moved a tank into LOCKED_OUT: taken in full, then reported (R136). -/
def State.done (s : State) : Host.Outcome State Fault Refusal := .next s.reportLockouts

/-! ### Commitments and postings (R83) -/

/-- A commitment after one context's remaining commitment goes from `old` to `new` (R83). The sum is held unbounded,
also above the 4,000,000,000 that section 7.2 gives its range (log 49). -/
def shiftCommitted (committed old new : Nat) : Nat := committed + new - old

/-- Change both committed values of a context at a point by its new remaining commitment less the old (R83). -/
def State.recommit (s : State) (tank : Fin 8) (product : Fin 6) (account old new : Nat) : State :=
  (s.modTank tank (fun x => { x with committed := shiftCommitted x.committed old new })).modAccount account
    (fun a => a.modEntry product (fun e => { e with committed := shiftCommitted e.committed old new }))

/-- Post the net `n` of a point's context: ΔN is `n` less the posted net (R83, R89). -/
def State.postNet (s : State) (p : Fin 8) (n : Nat) : State :=
  match (s.point p).config, (s.point p).context with
  | some k, some c =>
    if n = c.posted then s
    else
      let delta : Int := (n : Int) - c.posted
      let c' := { c with posted := n }
      (((s.setPoint p { s.point p with context := some c' }).recommit k.tank k.product c.account c.remaining
        c'.remaining).modAccount c.account (fun a =>
          a.modEntry k.product (fun e => { e with used := postUsed e.used delta }))).postBook k.tank (-delta)
  | _, _ => s

/-! ### Stop check and slow-down check (R85, R87, R88) -/

/-- N is at or above the limit less the stop lead (R88). -/
def reachesStop (n limit lead : Nat) : Bool := decide (limit ≤ n + lead)

/-- The limit less N is at or below the product's slow-down volume (R88). -/
def State.slowsDown (s : State) (product : Fin 6) (n limit : Nat) : Bool :=
  match s.product product with
  | none => false
  | some x => decide (limit ≤ n + x.slowDown)

/-- The stop check and then, in FAST, the slow-down check (R87, R88). A move from FAST to SLOW leaves the last count time,
which section 5.3 also takes from 'the entry to those states' (the model's reading, log 36). -/
def State.flowChecks (s : State) (p : Fin 8) : State :=
  match (s.point p).config, (s.point p).context with
  | some k, some c =>
    let n := (s.figures p c).net
    if reachesStop n c.limit k.stopLead then s.toStopping p .limitReached
    else if (s.point p).state = .fast ∧ s.slowsDown k.product n c.limit then s.enterState p .slow
    else s
  | _, _ => s

/-! ### Authorisation (R76 to R81) -/

/-- An authorisation as it reaches a point (R76). -/
structure AuthRequest where
  source : AuthSource
  point : Fin 8
  /-- the tag, for sources TAG and SITE -/
  tag : Nat
  /-- the account slot, for source RUN -/
  account : Nat
  preset : Option Nat
  hour : Option Nat
  /-- run id and step index, for source RUN -/
  run : Option (Nat × Nat)
  /-- step volume, for source RUN -/
  volume : Option Nat
deriving DecidableEq, Repr

/-- What became of an authorisation (R82). -/
inductive AuthOutcome where
  | opened (point : Fin 8) (limit : Nat) (governing : Governing)
  | refused (code : AuthRefusal)
deriving DecidableEq, Repr

/-- The data that a response carries for an outcome (R82). -/
def AuthOutcome.bytes : AuthOutcome → List Byte
  | .opened p limit g => [BitVec.ofNat 8 p.val] ++ beBytes 4 limit ++ [g.code]
  | .refused c => [c.code]

/-- The account of an authorisation: its tag's, or for RUN the slot that SRS names (R119). -/
def State.authAccount (s : State) (r : AuthRequest) : Option (Nat × Account) :=
  match r.source with
  | .run => (s.account r.account).map (fun a => (r.account, a))
  | _ => findTag r.tag s.mac.accounts

/-- Checks 1 to 4 of R77. -/
def State.pointChecks (s : State) (p : Fin 8) : Option AuthRefusal :=
  if (s.point p).state = .uncommissioned then some .notCommissioned
  else if (s.point p).state = .disabled then some .pointDisabled
  else if (s.point p).state ≠ .idle then some .busy
  else if s.ssd.level ≠ .normal then some .bayShut
  else if s.jev.isFull then some .journalFull
  else none

/-- Checks 6 to 9 of R77. -/
def State.accountChecks (s : State) (product : Fin 6) (a : Account) : Option AuthRefusal :=
  if a.suspended then some .accountSuspended
  else if 2 ≤ a.openCount then some .accountBusy
  else if (a.entryFor product).isNone then some .productNotPermitted
  else if a.serviceLock && s.isFuel product && a.services.any (fun v => decide (v.state = .overdue)) then
    some .serviceOverdue
  else none

/-- Check 10 of R77: hours-required, and the source not RUN (R78). -/
def hoursCheck (source : AuthSource) (a : Account) (result : HourResult) : Option AuthRefusal :=
  if decide (source ≠ .run) && a.hoursRequired && (decide (result = .none) || result.rejected) then
    some .hoursRequired
  else none

/-- The bounds that apply to an authorisation, in the order of R79. -/
def State.bounds (s : State) (r : AuthRequest) (k : PointConfig) (a : Account) : List (Nat × Governing) :=
  (match r.preset with | none => [] | some v => [(v, .preset)]) ++
  (match (a.entryFor k.product).bind Allowance.left with | none => [] | some v => [(v, .allowance)]) ++
  [((s.cls a.cls).maxFill, .classMax), ((s.tank k.tank).available, .tank)] ++
  (if s.mgt.online then [] else [((s.cls a.cls).offlineCap, .offlineCap)]) ++
  (match r.volume with | none => [] | some v => [(v, .runStep)])

/-- The least bound, and the first of the order that equals it (R79). -/
def leastBound : List (Nat × Governing) → Nat × Governing
  | [] => (Config.volumeBound, .classMax)
  | [b] => b
  | b :: rest => if b.1 ≤ (leastBound rest).1 then b else leastBound rest

/-- Check 11 of R77. -/
def State.tankCheck (s : State) (t : Fin 8) : Option AuthRefusal :=
  if (s.tank t).state = .lockedOut ∨ (s.tank t).state = .unset then some .tankUnavailable else none

/-- Check 12 of R77. -/
def State.limitCheck (s : State) (product : Fin 6) (limit : Nat) : Option AuthRefusal :=
  match s.product product with
  | none => none
  | some x => if limit < x.minDispense then some .limitTooSmall else none

/-- The context that an authorisation opens (R80, R62). -/
def State.newContext (s : State) (r : AuthRequest) (k : PointConfig) (slot : Nat) (a : Account)
    (result : HourResult) (bound : Nat × Governing) : Context :=
  let t := s.tank k.tank
  let temp := t.applied.getD 0
  { source := r.source, account := slot, tag := a.tag, run := r.run, hour := r.hour, hourResult := result,
    limit := bound.1, governing := bound.2, startCount := (s.channel r.point).count, posted := 0, phaseErrors := 0,
    overspeed := 0, lastCount := s.ms, overrun := false, startTime := s.stamp, startValid := s.mgt.timeValid,
    endCause := none, segBase := 0, segTemp := temp, segVcf := vcf (s.beta k.product) temp, closedNet := 0,
    segCount := 1, reverse := false, saturated := false, tempHeld := decide (t.gauge ≠ .valid),
    clamped := t.clamped, authDue := s.clock + s.mgt.params.authTimeout * Config.usPerSecond, stoppingAt := 0,
    quietFrom := 0 }

/-- Clear a channel's creep accumulator (R43, R49). -/
def State.clearCreep (s : State) (c : Fin 8) : State := s.setChannel c { s.channel c with creep := 0 }

/-- Open a context at a point in one step (R80). -/
def State.openContext (s : State) (p : Fin 8) (k : PointConfig) (c : Context) : State :=
  (((((s.clearCreep p).reservePlace).recommit k.tank k.product c.account 0 c.limit).modAccount c.account
    (fun a => { a with openCount := a.openCount + 1 })).setPoint p
      { s.point p with context := some c, refusal := none, state := .authorised }).sendPanel p

/-- Refuse an authorisation (R81, R163). -/
def State.refuse (s : State) (p : Fin 8) (source : AuthSource) (code : AuthRefusal) : State :=
  let s := ((s.setPoint p { s.point p with refusal := some code }).sendPanel p).raise .authRefused p.val
    [code.code, source.code]
  if code = .journalFull then s.reportFull else s

/-- Checks 11 and 12 and then the opening, with the hour result as it stands (R77, R79, R80). -/
def State.authoriseLimit (s : State) (r : AuthRequest) (k : PointConfig) (slot : Nat) (a : Account)
    (result : HourResult) : State × AuthOutcome :=
  match s.tankCheck k.tank with
  | some code => (s.refuse r.point r.source code, .refused code)
  | none =>
    let b := leastBound (s.bounds r k a)
    match s.limitCheck k.product b.1 with
    | some code => (s.refuse r.point r.source code, .refused code)
    | none =>
      (s.openContext r.point k (s.newContext r k slot a result b), .opened r.point b.1 b.2)

/-- Check 10: the hour reading is offered, and its effects stand (R78). -/
def State.authoriseHours (s : State) (r : AuthRequest) (k : PointConfig) (slot : Nat) (a : Account) :
    State × AuthOutcome :=
  let offered : State × HourResult :=
    match r.hour with
    | none => (s, .none)
    | some h => s.offerHour slot a r.point h
  match hoursCheck r.source a offered.2 with
  | some code => (offered.1.refuse r.point r.source code, .refused code)
  | none => offered.1.authoriseLimit r k slot ((offered.1.account slot).getD a) offered.2

/-- Judge an authorisation by the twelve checks, and open a context or refuse (R77). -/
def State.authorise (s : State) (r : AuthRequest) : State × AuthOutcome :=
  match s.pointChecks r.point, (s.point r.point).config with
  | some code, _ => (s.refuse r.point r.source code, .refused code)
  | none, none => (s.refuse r.point r.source .notCommissioned, .refused .notCommissioned)
  | none, some k =>
    match s.authAccount r with
    | none => (s.refuse r.point r.source .unknownTag, .refused .unknownTag)
    | some (slot, a) =>
      match s.accountChecks k.product a with
      | some code => (s.refuse r.point r.source code, .refused code)
      | none => s.authoriseHours r k slot a

/-! ### Panel keys (R84 to R87) -/

/-- ACK (R84). -/
def State.ackKey (s : State) (p : Fin 8) : State :=
  if (s.point p).state = .uncommissioned then s
  else (s.setPoint p { s.point p with refusal := none }).sendPanel p

/-- START (R85). -/
def State.startKey (s : State) (p : Fin 8) : State :=
  match (s.point p).state, (s.point p).config, (s.point p).context with
  | .authorised, some k, some _ =>
    let s := (s.modContext p (fun c => { c with lastCount := s.ms, overspeed := 0 })).takeFigures p
    match (s.point p).context with
    | none => s
    | some c =>
      let n := (s.figures p c).net
      if reachesStop n c.limit k.stopLead then s.toStopping p .limitReached
      else if k.slowOnly || s.slowsDown k.product n c.limit then s.enterState p .slow
      else s.enterState p .fast
  | _, _, _ => s

/-- PRESET with a value (R87). -/
def State.presetKey (s : State) (p : Fin 8) (value : Nat) : State :=
  if (s.point p).state.running then
    let s := s.takeFigures p
    match (s.point p).config, (s.point p).context with
    | some k, some c =>
      let limit := min c.limit (max value (s.figures p c).net)
      if limit < c.limit then
        let c' := { c with limit := limit, governing := .preset }
        (((s.setPoint p { s.point p with context := some c' }).recommit k.tank k.product c.account c.remaining
          c'.remaining).sendPanel p).flowChecks p
      else s
    | _, _ => s
  else s

/-! ### Segments (R64) -/

/-- Close the segments of the contexts drawing from a tank, at its applied temperature (R64). -/
def State.closeSegments (s : State) (t : Fin 8) : State :=
  let temp := (s.tank t).applied.getD 0
  each all8 (fun s p =>
    match (s.point p).config with
    | none => s
    | some k =>
      if k.tank = t then
        s.modContext p (fun c =>
          c.closeSegment (s.figures p c) temp (vcf (s.beta k.product) temp) (s.tank t).clamped)
      else s) s

end Sys2Proof.Machine
end

