-- ==== Sys2Proof/Machine/Shutdown.lean ====
section
/-! DEFINITION. Spill and shutdown: the cause set, the bay level and the horn (chapter 9). -/

namespace Sys2Proof.Machine

/-- Start the pulse pattern with its on second (R157). -/
def State.startPattern (s : State) : State :=
  s.setSsd { s.ssd with hornOn := true, hornDue := s.clock + Config.hornUs }

/-- Lift the horn's silence; at BAY_STOP the pattern starts again (R157, R158). -/
def State.liftSilence (s : State) : State :=
  if s.ssd.silenced then
    let s := s.setSsd { s.ssd with silenced := false }
    if s.ssd.level = .bayStop then s.startPattern else s
  else s

/-- The bay level takes a new value: the silence ends at a rise and at a fall to NORMAL, the pattern starts at
BAY_STOP, and the pumps follow (R157, R158, R73). -/
def State.takeLevel (s : State) (new : Level) : State :=
  let old := s.ssd.level
  let quiet := s.ssd.silenced && decide (new.rank ≤ old.rank) && decide (new ≠ .normal)
  let s := s.setSsd { s.ssd with level := new, silenced := quiet }
  (if new = .bayStop then s.startPattern else s).syncPumps

/-- A rise from NORMAL reported to every point and to FSM (R156, R92, R11). -/
def State.riseFromNormal (s : State) : State := (each all8 (fun s p => s.toStopping p .bayStop) s).purgeGated

/-- Evaluate the bay level after a change of the cause set, and report a change (R155, R156). -/
def State.evalLevel (s : State) : State :=
  let old := s.ssd.level
  let new := s.calledLevel
  if new = old then s
  else
    let s := (s.takeLevel new).raise .levelChanged noSource [old.code, new.code]
    let s := if old = .normal then s.riseFromNormal else s
    if new = .isolate then s.endDeliveries .isolate else s

/-- Marks of CAUSE_RAISED (R153). -/
def markNew : Byte := 1
def markReturned : Byte := 2

/-- Raise CAUSE_RAISED for an entry (R153, R154). -/
def State.raiseCause (s : State) (k : CauseKey) (level : Level) (mark : Byte) : State :=
  s.raise .causeRaised k.source [k.kindCode, level.code, mark]

/-- Make a new entry: CAUSE_RAISED marked new, and the horn's silence lifted (R153, R154). -/
def State.newCause (s : State) (k : CauseKey) (e : CauseEntry) : State :=
  ((s.setCause k (some e)).raiseCause k e.level markNew).liftSilence

/-- A condition cause becomes present, at the level of a new entry (R153). -/
def State.causePresent (s : State) (k : CauseKey) (level : Level) : State :=
  match s.cause k with
  | none => (s.newCause k { active := true, level := level }).evalLevel
  | some e =>
    if e.active then s
    else
      let l := e.level.higher level
      ((s.setCause k (some { active := true, level := l })).raiseCause k l markReturned).evalLevel

/-- A condition cause goes away (R153). -/
def State.causeGone (s : State) (k : CauseKey) : State :=
  match s.cause k with
  | some e =>
    if e.active then
      ((s.setCause k (some { e with active := false })).raise .causeGone k.source
        [k.kindCode, e.level.code]).evalLevel
    else s
  | none => s

/-- Hand a change of a condition to the cause set; no change hands nothing (R153). -/
def State.conditionChange (s : State) (k : CauseKey) (level : Level) (before after : Bool) : State :=
  match before, after with
  | false, true => s.causePresent k level
  | true, false => s.causeGone k
  | _, _ => s

/-- A report of an event cause (R154). -/
def State.eventCause (s : State) (k : CauseKey) (level : Level) : State :=
  match s.cause k with
  | none => (s.newCause k { active := false, level := level }).evalLevel
  | some e =>
    if e.level.rank < level.rank then
      ((s.setCause k (some { active := false, level := level })).raiseCause k level markReturned).evalLevel
    else s

/-! ### Spill inputs and loops (R147 to R149) -/

/-- The raw level is the active one under the polarity (R148). -/
def Spill.wet (x : Spill) : Bool := x.raw != x.activeLow

/-- Give a spill input's condition a value and hand the change to the cause set (R148). -/
def State.setSpillPresent (s : State) (i : Fin 8) (present : Bool) : State :=
  let x := s.spill i
  (s.setSpill i { x with present := present, timing := none }).conditionChange (.spill i) x.level x.present present

/-- A sample of an enabled input (R148); a debounce of 0 gives the condition at once. -/
def State.judgeSpill (s : State) (i : Fin 8) : State :=
  let x := s.spill i
  if x.enabled then
    if x.wet then
      if x.present || x.timing.isSome then s
      else if x.debounce = 0 then s.setSpillPresent i true
      else s.setSpill i { x with timing := some s.clock }
    else s.setSpillPresent i false
  else s

/-! ### Sumps (R150 to R152) -/

/-- The configuration of a fitted sump (R150). -/
def Sump.fitted (x : Sump) : Option SumpConfig := if x.config.station = 0 then none else some x.config

/-- Judge the two level conditions of a sump from its last level (R151). That SUMP_HIGH reaches the cause set first
is the model's choice (log 10). -/
def State.judgeSumpLevels (s : State) (k : Fin 4) : State :=
  let x := s.sump k
  match x.fitted, x.lastLevel with
  | some c, some l =>
    let high := decide (c.high ≤ l)
    let highHigh := decide (c.highHigh ≤ l)
    ((s.setSump k { x with high := high, highHigh := highHigh }).conditionChange (.sumpHigh k) .bayStop x.high
      high).conditionChange (.sumpHighHigh k) .isolate x.highHigh highHigh
  | _, _ =>
    ((s.setSump k { x with high := false, highHigh := false }).conditionChange (.sumpHigh k) .bayStop x.high
      false).conditionChange (.sumpHighHigh k) .isolate x.highHigh false

/-- The SUMP_STALE condition takes a value (R152). -/
def State.setSumpStale (s : State) (k : Fin 4) (stale : Bool) : State :=
  let x := s.sump k
  (s.setSump k { x with stale := stale }).conditionChange (.sumpStale k) .bayStop x.stale stale

/-- SUMP_STALE judged from the freshness of the sump's station (R152). -/
def State.judgeSumpStale (s : State) (k : Fin 4) : State :=
  match s.commissioned, (s.sump k).fitted with
  | true, some c => s.setSumpStale k (!s.stationFresh c.station)
  | _, _ => s.setSumpStale k false

/-- A SUMP_LEVEL record handed on (R151). -/
def State.sumpSample (s : State) (k : Fin 4) (level : Nat) : State :=
  (s.setSump k { s.sump k with lastLevel := some level }).judgeSumpLevels k

end Sys2Proof.Machine
end

