-- ==== Sys2Proof/Machine/Gauge.lean ====
section
/-! DEFINITION. Gauge samples: the gauged figures, line loss and stock gain (R58 to R60, R69, R70, R131 to R138). -/

namespace Sys2Proof.Machine

/-- A GAUGE_SAMPLE role record (section 1.7). -/
structure GaugeRecord where
  tank : Fin 8
  fault : Bool
  level : Nat
  temp : Int
  water : Option Nat
deriving DecidableEq, Repr

/-- The gauge becomes VALID and the last figures take the sample's values (R133 step 1). -/
def Tank.takeSample (x : Tank) (r : GaugeRecord) : Tank :=
  { x with gauge := .valid, lastLevel := some r.level, lastWater := r.water, lastTemp := some r.temp }

/-- The applied temperature, its source and CLAMPED (R133 step 2, R58); a tank that names no defined product has no
applied temperature (R59, log 15). -/
def Tank.takeTemp (x : Tank) (t : Int) (productDefined : Bool) : Tank :=
  { x with applied := if productDefined then some (clampTemp t) else none, source := .sample,
           clamped := decide (clampTemp t ≠ t) }

/-- The observed volume and the gauged net, while the table is well formed (R133 step 3, R69, R70). -/
def Tank.takeFigures (x : Tank) (r : GaugeRecord) (beta : Nat) : Tank :=
  match x.strap with
  | some ps =>
    if wellFormedStrap (some ps) then
      let v := observedVolume ps r.level r.water
      { x with observed := some v, strapClamped := observedClamps ps r.level r.water,
               gaugedNet := some (capVolume (corrected v (vcf beta (clampTemp r.temp)))) }
    else x
  | none => x

/-- The beta of the product a tank names; 0 where it names no defined product (log 15). -/
def State.tankBeta (s : State) (t : Fin 8) : Nat :=
  match (s.tank t).config with
  | none => 0
  | some c => s.beta c.product

/-- Steps 1 to 3 of R133: the figures, and the segments of the contexts when the temperature changes (R60, R64). -/
def State.sampleFigures (s : State) (r : GaugeRecord) : State :=
  let old := (s.tank r.tank).applied
  let s := s.modTank r.tank (fun x => (x.takeSample r).takeTemp r.temp (s.defaultTemp x).isSome)
  let s := if old ≠ (s.tank r.tank).applied then s.closeSegments r.tank else s
  s.modTank r.tank (fun x => x.takeFigures r (s.tankBeta r.tank))

/-- An UNSET book takes the gauged net, the baseline becomes 0 and gain reported is cleared (R134). -/
def Tank.setBook (x : Tank) : Tank :=
  match x.book, x.gaugedNet with
  | none, some g => { x with book := some (g : Int), baseline := some 0, gainReported := false }
  | _, _ => x

/-- Step 4 of R133. -/
def State.sampleBook (s : State) (t : Fin 8) : State :=
  if (s.tank t).gaugedNet.isSome then (s.modTank t Tank.setBook).evalTank t else s

/-- Step 5 of R133. -/
def State.sampleHighLevel (s : State) (t : Fin 8) : State :=
  if (s.tank t).belowHighHigh then s else s.endDelivery t .highLevel

/-- No context draws from the tank and no delivery is open on it (section 8.4). -/
def State.isQuiet (s : State) (t : Fin 8) : Bool :=
  (all8.all fun p => !(s.point p).drawsFrom t) && (s.tank t).delivery.isNone

/-- Book less gauged net less baseline, when all three are present (R138). -/
def Tank.loss (x : Tank) : Option Int :=
  match x.book, x.gaugedNet, x.baseline with
  | some b, some g, some base => some (b - g - base)
  | _, _, _ => none

/-- The test of a quiet sample whose loss is known (R138). -/
def State.testLoss (s : State) (t : Fin 8) (threshold : Nat) (loss : Int) : State :=
  if (threshold : Int) ≤ loss then
    (s.modTank t (fun x => { x with gainReported := false })).eventCause (.lineLoss t) .bayStop
  else if loss ≤ -(threshold : Int) then
    if (s.tank t).gainReported then s
    else (s.modTank t (fun x => { x with gainReported := true })).raise .stockGain t.val (beBytesInt 5 loss)
  else s.modTank t (fun x => { x with gainReported := false })

/-- Step 6 of R133: the line loss test of a quiet sample (R138). -/
def State.sampleLoss (s : State) (t : Fin 8) (c : TankConfig) : State :=
  match (s.tank t).loss with
  | none => s
  | some l => if s.isQuiet t ∧ c.lossThreshold ≠ 0 then s.testLoss t c.lossThreshold l else s

/-- A GAUGE_SAMPLE record handed on: not acted on while its station's data is stale (R132); else R133. The tank's state is
evaluated once, at step 4, and not also as step 1 moves the gauge into VALID (the model's reading, log 18). -/
def State.gaugeSample (s : State) (r : GaugeRecord) : State :=
  match (s.tank r.tank).config with
  | none => s
  | some c =>
    if s.stationFresh c.gauge then
      if r.fault then s.gaugeFault r.tank
      else
        let s := s.sampleFigures r
        if s.commissioned then ((s.sampleBook r.tank).sampleHighLevel r.tank).sampleLoss r.tank c else s
    else s

/-! ### Freshness reports (R25) -/

/-- A report that a station's data has become stale, to tanks and then to sumps (R25, R131, R152, log 10). -/
def State.reportStale (s : State) (station : Nat) : State :=
  let s := each all8 (fun s t =>
    match (s.tank t).config with
    | none => s
    | some c => if c.gauge = station then s.gaugeStale t else s) s
  each all4 (fun s k =>
    match (s.sump k).fitted with
    | none => s
    | some c => if c.station = station ∧ s.commissioned then s.setSumpStale k true else s) s

/-- A report that a station's data has become fresh: it changes no gauge (R131); a SUMP_STALE condition goes
away (R152). -/
def State.reportFresh (s : State) (station : Nat) : State :=
  each all4 (fun s k =>
    match (s.sump k).fitted with
    | none => s
    | some c => if c.station = station then s.setSumpStale k false else s) s

end Sys2Proof.Machine
end

