-- ==== Sys2Proof/Machine/Runs.lean ====
section
/-! DEFINITION. Service runs: starting, offering a step, step results, suspension and abandonment (chapter 6). -/

namespace Sys2Proof.Machine

/-- Change the run of a slot, if it holds one. -/
def State.modRun (s : State) (k : Fin 4) (f : Run → Run) : State :=
  match s.slot k with
  | none => s
  | some r => s.setSlot k (some (f r))

/-- LOADED, ACTIVE or SUSPENDED (R100). -/
def RunState.live : RunState → Bool
  | .loaded => true
  | .active => true
  | .suspended => true
  | _ => false

/-- DONE or ABANDONED. -/
def RunState.ended : RunState → Bool
  | .done => true
  | .abandoned => true
  | _ => false

/-- The run names the point in one of its steps. -/
def Run.names (r : Run) (p : Fin 8) : Bool := r.steps.any (fun x => decide (x.point = p))

/-- Change step `i` of the list, counted from 1. -/
def modStep (i : Nat) (f : RunStep → RunStep) (l : List RunStep) : List RunStep :=
  match l with
  | [] => []
  | x :: rest => if i = 1 then f x :: rest else x :: modStep (i - 1) f rest

/-- Step `i` of a run, counted from 1. -/
def Run.step (r : Run) (i : Nat) : Option RunStep := if i = 0 then none else r.steps[i - 1]?

/-- The current step is the last in the list. -/
def Run.atLast (r : Run) : Bool := decide (r.steps.length ≤ r.current)

/-- The first slot whose run meets a condition. -/
def State.findSlot (s : State) (f : Run → Bool) : Option (Fin 4) :=
  all4.find? (fun k => match s.slot k with | none => false | some r => f r)

/-- The step of the run is open at a point: some context carries its run id (R104). -/
def State.runPoint (s : State) (id : Nat) : Option (Fin 8) :=
  all8.find? (fun p =>
    match (s.point p).context with
    | none => false
    | some c => match c.run with | none => false | some r => decide (r.1 = id))

/-- Enter SUSPENDED: the timer starts afresh and RUN_SUSPENDED is raised (R106). -/
def State.suspendRun (s : State) (k : Fin 4) (r : Run) (reason : SuspendReason) (code : Option AuthRefusal) : State :=
  (s.setSlot k
    (some { r with state := .suspended, suspendReason := some reason,
                   suspendDue := some (s.ms + Config.suspendMs) })).raise .runSuspended k.val
      (beBytes 1 r.runId ++ beBytes 1 r.current ++ [reason.code, refusalCode code])

/-- The run is DONE (R105, R107); its suspend reason ends with SUSPENDED (log 48). The run id and the number of OK steps
take 1 byte each of RUN_DONE's detail (log 14). -/
def State.finishRun (s : State) (k : Fin 4) (r : Run) : State :=
  (s.setSlot k (some { r with state := .done, suspendReason := none, suspendDue := none })).raise .runDone k.val
    (beBytes 1 r.runId ++ beBytes 1 (r.steps.countP (fun x => decide (x.result = .ok))))

/-- Offer the current step of a run to DPT for `volume`, with the reading given (R104). A step that opens makes the
run ACTIVE, and its suspend reason ends with SUSPENDED (log 48). A refused step raises AUTH_REFUSED, the JOURNAL_FULL of
a refusal for want of room, and RUN_SUSPENDED last; that order is the model's choice (log 35). -/
def State.offerStep (s : State) (k : Fin 4) (r : Run) (x : RunStep) (volume : Nat) (hour : Option Nat) :
    State × AuthOutcome :=
  let q : AuthRequest :=
    { source := .run, point := x.point, tag := 0, account := r.account, preset := none, hour := hour,
      run := some (r.runId, r.current), volume := some volume }
  let out := s.authorise q
  match out.2 with
  | .opened _ _ _ =>
    (out.1.setSlot k
      (some { r with state := .active, suspendReason := none, suspendDue := none, startReading := none,
                     steps := modStep r.current (fun y => { y with result := .pending }) r.steps }), out.2)
  | .refused code =>
    (out.1.suspendRun k
      { r with startReading := none, steps := modStep r.current (fun y => { y with result := .refused }) r.steps }
      .refused (some code), out.2)

/-- Move a run on to the step after its current step, and authorise it (R104, R105, R107). Its suspend reason ends
with SUSPENDED (log 48). -/
def State.nextStep (s : State) (k : Fin 4) (r : Run) : State × Option AuthOutcome :=
  let r := { r with current := r.current + 1, state := .active, suspendReason := none, suspendDue := none }
  match r.step r.current with
  | none => (s.setSlot k (some r), none)
  | some x =>
    let out := s.offerStep k r x x.target none
    (out.1, some out.2)

/-- A run started by a tag read: RUN_STARTED, then step 1 (R103). The run id takes 1 byte of the detail (log 14). -/
def State.startRun (s : State) (k : Fin 4) (r : Run) (p : Fin 8) (hour : Option Nat) : State :=
  let r := { r with state := .active, current := 1, startReading := hour }
  let s := (s.setSlot k (some r)).raise .runStarted k.val (beBytes 1 r.runId ++ [BitVec.ofNat 8 p.val])
  match r.step 1 with
  | none => s
  | some x => (s.offerStep k r x x.target r.startReading).1

/-- Result and delivered net of a completed step (R105). -/
def Run.record (r : Run) (i : Nat) (cause : Option EndCause) (n : Nat) : Run :=
  let result : StepResult := if cause = some .limitReached then .ok else .short
  { r with steps := modStep i (fun x => { x with delivered := satAdd x.delivered n, result := result }) r.steps }

/-- What follows a step's completion in an ACTIVE run, but for the next authorisation, which is made once the
completion has finished: then the slot is answered (R104, R105). -/
def State.continueRun (s : State) (k : Fin 4) (r : Run) (cause : Option EndCause) : State × Option (Fin 4) :=
  if cause = some .limitReached then
    if r.atLast then (s.finishRun k r, none)
    else if ((r.step r.current).map (·.pauseAfter)).getD false then (s.suspendRun k r .pause none, none)
    else (s.setSlot k (some r), some k)
  else (s.suspendRun k r .short none, none)

/-- DPT tells SRS of a step's completion (R95 step 8, R105). -/
def State.stepEnd (s : State) (run : Option (Nat × Nat)) (cause : Option EndCause) (n : Nat) :
    State × Option (Fin 4) :=
  match run with
  | none => (s, none)
  | some (id, i) =>
    match s.findSlot (fun r => decide (r.runId = id)) with
    | none => (s, none)
    | some k =>
      match s.slot k with
      | none => (s, none)
      | some r =>
        let r := r.record i cause n
        if r.state = .active then s.continueRun k r cause else (s.setSlot k (some r), none)

/-- The authorisation of the step that follows a completion (R104). -/
def State.followOn (s : State) (next : Option (Fin 4)) : State :=
  match next with
  | none => s
  | some k =>
    match s.slot k with
    | none => s
    | some r => (s.nextStep k r).1

/-- A run is abandoned, and a step open at a point is ended as by CANCEL (R109). Its suspend reason ends with
SUSPENDED (log 48), and the run id takes 1 byte of RUN_ABANDONED's detail (log 14). -/
def State.abandonRun (s : State) (k : Fin 4) (r : Run) (reason : AbandonReason) : State :=
  let s := (s.setSlot k
    (some { r with state := .abandoned, suspendReason := none, suspendDue := none,
                   abandonReason := some reason })).raise .runAbandoned k.val
      (beBytes 1 r.runId ++ beBytes 1 r.current ++ [reason.code])
  match s.runPoint r.runId with
  | none => s
  | some p => s.toStopping p .siteCancel

/-- The LOADED run of an account with a step at the point (R76, R100). -/
def State.loadedRun (s : State) (account : Nat) (p : Fin 8) : Option (Fin 4) :=
  s.findSlot (fun r => decide (r.state = .loaded) && decide (r.account = account) && r.names p)

/-- A NOZZLE_TAG record handed on: ignored, a run start, or a TAG authorisation (R76). -/
def State.tagRead (s : State) (p : Fin 8) (tag : Nat) (hour : Option Nat) : State :=
  let held := match (s.point p).context with | none => false | some c => decide (c.tag = tag)
  if held then s
  else
    let start := (findTag tag s.mac.accounts).bind (fun e => s.loadedRun e.1 p)
    match start.bind (fun k => (s.slot k).map (fun r => (k, r))) with
    | some (k, r) => s.startRun k r p hour
    | none =>
      (s.authorise { source := .tag, point := p, tag := tag, account := 0, preset := none, hour := hour,
                     run := none, volume := none }).1

/-- A resume of a SUSPENDED run: on to the next step, or DONE after the last (R107). -/
def State.resumeRun (s : State) (k : Fin 4) (r : Run) : State × Option AuthOutcome :=
  if r.atLast then (s.finishRun k r, none) else s.nextStep k r

/-- RESUME at a panel (R107). -/
def State.resumeKey (s : State) (p : Fin 8) : State :=
  match s.findSlot (fun r => decide (r.state = .suspended) && r.names p) with
  | some k =>
    match s.slot k with
    | none => s
    | some r => (s.resumeRun k r).1
  | none =>
    match s.findSlot (fun r => decide (r.state = .active) && r.names p) with
    | some k => s.modRun k (fun r => { r with ignored := inc8 r.ignored })
    | none => s

end Sys2Proof.Machine
end

