-- ==== Sys2Proof/Machine/Completion.lean ====
section
/-! DEFINITION. Counts taken by a context, and the completion of a transaction (R88, R90, R94, R95, R97). -/

namespace Sys2Proof.Machine

/-- A count handed to the context of a point (R88). The channel has counted it already. -/
def State.contextCount (s : State) (p : Fin 8) : State :=
  match (s.point p).state with
  | .stopping => s.modContext p (fun c => { c with quietFrom := s.clock })
  | .fast | .slow => ((s.modContext p (fun c => { c with lastCount := s.ms })).takeFigures p).flowChecks p
  | _ => s

/-- A phase error reported to the context of a point (R90). -/
def State.contextPhaseError (s : State) (p : Fin 8) : State :=
  match (s.point p).context with
  | none => s
  | some c =>
    let s := s.setPoint p { s.point p with context := some { c with phaseErrors := inc16 c.phaseErrors } }
    if c.phaseErrors + 1 = Config.phaseErrorLimit then s.raise .phaseErrors p.val [BitVec.ofNat 8 p.val] else s

/-- Steps 2 and 3 of R95: the final posting, then the release of what remains. -/
def State.settleCommitment (s : State) (p : Fin 8) (k : PointConfig) (c : Context) (n : Nat) : State :=
  ((s.postNet p n).recommit k.tank k.product c.account (c.limit - n) 0).modAccount c.account
    (fun a => { a with openCount := a.openCount - 1 })

/-- N exceeds the limit by more than the tolerance (R95 step 4). -/
def overruns (k : PointConfig) (c : Context) (n : Nat) : Bool := decide (c.limit + k.tolerance < n)

/-- Step 4 of R95: the OVERRUN event. -/
def State.reportOverrun (s : State) (p : Fin 8) (k : PointConfig) (c : Context) (n : Nat) : State :=
  if overruns k c n then s.raise .overrun p.val (beBytes 4 c.limit ++ beBytes 4 n) else s

/-- The DISPENSE record of a completion (R65, R95 steps 5 and 6). -/
def Context.toRecord (c : Context) (p : Fin 8) (k : PointConfig) (f : Figures) (endTime : Nat) (endValid : Bool)
    (number : Nat) : Record :=
  .dispense
    { number := number, point := p, product := k.product, tank := k.tank, source := c.source, account := c.account,
      tag := c.tag, run := c.run, hour := c.hour, hourResult := c.hourResult, limit := c.limit,
      governing := c.governing, gross := f.gross, net := f.net, segCount := c.segCount, lastTemp := c.segTemp,
      startTime := c.startTime, endTime := endTime, timeValid := c.startValid && endValid, endCause := c.endCause,
      reverse := c.reverse, saturated := c.saturated, tempHeld := c.tempHeld, clamped := c.clamped,
      overrun := overruns k c f.net }

/-- Step 6 of R95: the record in its reserved place, and TRANSACTION_END. -/
def State.writeDispense (s : State) (p : Fin 8) (k : PointConfig) (c : Context) (f : Figures) : State :=
  (s.append (c.toRecord p k f s.stamp s.mgt.timeValid)).raise .transactionEnd p.val
    (beBytes 4 s.jev.nextNumber ++ [endCauseCode c.endCause])

/-- Step 9 of R95, but for the frame: the last figures, the context ceases, the point enters IDLE. -/
def State.releasePoint (s : State) (p : Fin 8) (c : Context) (n : Nat) : State :=
  (s.setPoint p { s.point p with lastNet := n, lastLimit := c.limit, lastGoverning := some c.governing,
                                 context := none, state := .idle }).syncPumps

/-- Steps 1 to 7 of R95 for a context `c` whose final figures have set its flags. -/
def State.completeWork (s : State) (p : Fin 8) (k : PointConfig) (c : Context) (f : Figures) : State :=
  ((((s.settleCommitment p k c f.net).reportOverrun p k c f.net).writeDispense p k c f).accountCompletion c.account
    k.product f.net)

/-- The completion of a transaction at the end of its settle (R95), then the next step of its run (R104). -/
def State.complete (s : State) (p : Fin 8) : State :=
  let s := s.takeFigures p
  match (s.point p).config, (s.point p).context with
  | some k, some c =>
    let f := s.figures p c
    let out := (s.completeWork p k c f).stepEnd c.run c.endCause f.net
    ((out.1.releasePoint p c f.net).sendPanel p).followOn out.2
  | _, _ => s

/-! ### Completions of a soft reset (R97, R111) -/

/-- Every open context takes its end: RESET unless it is already STOPPING (R97). -/
def State.markResetEnds (s : State) : State :=
  each all8 (fun s p =>
    if (s.point p).state.running then s.modContext p (fun c => { c with endCause := some .reset }) else s) s

/-- SRS is told of a completion at a soft reset: the result is recorded, nothing is authorised or suspended, and
an ACTIVE run whose last step is recorded OK becomes DONE (R111). -/
def State.stepEndAtReset (s : State) (run : Option (Nat × Nat)) (cause : Option EndCause) (n : Nat) : State :=
  match run with
  | none => s
  | some (id, i) =>
    match s.findSlot (fun r => decide (r.runId = id)) with
    | none => s
    | some k =>
      match s.slot k with
      | none => s
      | some r =>
        let r := r.record i cause n
        if r.state = .active ∧ cause = some .limitReached ∧ r.atLast then s.finishRun k r else s.setSlot k (some r)

/-- Steps 1 to 8 of R95 at a soft reset, and the point's last figures and IDLE (R97). -/
def State.completeAtReset (s : State) (p : Fin 8) : State :=
  let s := s.takeFigures p
  match (s.point p).config, (s.point p).context with
  | some k, some c =>
    let f := s.figures p c
    ((s.completeWork p k c f).stepEndAtReset c.run c.endCause f.net).releasePoint p c f.net
  | _, _ => s

end Sys2Proof.Machine
end

