-- ==== Sys2Proof/Machine/Delivery.lean ====
section
/-! DEFINITION. The delivery protocol: DELIVERY frames and their answers (R71, R140 to R143, section 12.3). -/

namespace Sys2Proof.Machine

/-- Answer results (section 12.7). -/
def answerAccepted : Byte := 1
def answerRunning : Byte := 2
def answerEnded : Byte := 3
def answerBadGross : Byte := 4
def answerMalformed : Byte := 16
def answerNotCommissioned : Byte := 17
def answerNoOrder : Byte := 18
def answerMismatch : Byte := 19
def answerNotStarted : Byte := 26

/-- A DELIVERY frame's phase and the fields it carries (section 12.3). -/
inductive DeliveryPhase where
  | request (tank : Fin 8) (product : Fin 6)
  | running (gross : Nat) (temp : Int)
  | ended (gross : Nat) (temp : Int)
deriving DecidableEq, Repr

/-- A DELIVERY frame that is not MALFORMED. -/
structure DeliveryFrame where
  reference : Nat
  tanker : Nat
  phase : DeliveryPhase
deriving DecidableEq, Repr

/-- The phase and its fields; absent when the payload is too short for it or a field is out of range (R140). -/
def parsePhase (b : List Byte) : Option DeliveryPhase :=
  match num b 0 1 with
  | 1 =>
    if 9 ≤ b.length then
      match toFin 8 (num b 7 1), toFin 6 (num b 8 1) with
      | some t, some p => some (.request t p)
      | _, _ => none
    else none
  | 2 =>
    if 13 ≤ b.length ∧ num b 7 4 ≤ Config.volumeBound then some (.running (num b 7 4) (sgn b 11 2)) else none
  | 3 => if 13 ≤ b.length ∧ num b 7 4 ≤ Config.volumeBound then some (.ended (num b 7 4) (sgn b 11 2)) else none
  | _ => none

/-- The payload of a DELIVERY frame; absent is MALFORMED (R140). -/
def parseDelivery (b : List Byte) : Option DeliveryFrame :=
  if num b 3 4 = 0 then none
  else (parsePhase b).map (fun p => { reference := num b 1 2, tanker := num b 3 4, phase := p })

/-- The reference that a MALFORMED answer carries: 0 when the payload is too short to carry one (R183). -/
def carriedReference (b : List Byte) : Nat := if 3 ≤ b.length then num b 1 2 else 0

/-- An answer about no order: its figures are 0 and its valve shut (log 16). -/
def bareAnswer (result : Byte) (reference : Nat) : List Byte :=
  [result] ++ beBytes 2 reference ++ [0] ++ beBytes 4 0 ++ beBytes 4 0 ++ [0]

/-- An answer about the order in an entry, with its figures as they stand (section 8.6) and the inlet valve of the
order's tank (log 59). -/
def State.orderAnswer (s : State) (result : Byte) (o : Fin 16) : List Byte :=
  match s.order o with
  | none => bareAnswer result 0
  | some x =>
    [result] ++ beBytes 2 x.reference ++ flagByte (s.inletValve x.tank) ++ beBytes 4 x.permitted ++
      beBytes 4 x.net ++ [answerEndCode x.endCause]

/-- The answer to a frame for an ENDED or REFUSED order: ENDED, or its refusal code (R141, R142). -/
def settledResult (x : Order) : Byte :=
  match x.endCause with
  | some (.refused c) => c.code
  | _ => answerEnded

/-- Ullage: the safe fill less the observed volume (R141). -/
def ullage (c : TankConfig) (observed : Nat) : Nat := c.safeFill - observed

/-- The checks of a REQUEST for a PENDING order (R141); the ullage where they pass. -/
def State.deliveryChecks (s : State) (x : Order) (tanker : Nat) (tank : Fin 8) (product : Fin 6) :
    Except DeliveryRefusal Nat :=
  match (s.tank x.tank).config with
  | none => .error .mismatch
  | some c =>
    if tanker ≠ x.tanker ∨ tank ≠ x.tank ∨ product ≠ x.product ∨ x.product ≠ c.product then .error .mismatch
    else
      match (s.tank x.tank).gauge, (s.tank x.tank).observed with
      | .valid, some v =>
        if !(s.tank x.tank).belowHighHigh then .error .highLevel
        else if s.ssd.level = .isolate then .error .bayIsolated
        else if (s.tank x.tank).delivery.isSome then .error .tankBusy
        else if s.jev.isFull then .error .journalFull
        else if ullage c v = 0 then .error .noUllage
        else .ok (ullage c v)
      | _, _ => .error .gaugeInvalid

/-- A refused REQUEST: the order becomes REFUSED and DELIVERY_REFUSED is raised (R141, R163), before the JOURNAL_FULL
of a refusal for want of room (the model's choice, log 35). The tank it names is the order's, also where the REQUEST named
another (the model's choice, log 59). -/
def State.refuseDelivery (s : State) (o : Fin 16) (x : Order) (code : DeliveryRefusal) : State :=
  let s := (s.setOrder o (some { x with state := .refused, endCause := some (.refused code) })).raise
    .deliveryRefused x.reference [BitVec.ofNat 8 x.tank.val, code.code]
  if code = .journalFull then s.reportFull else s

/-- An accepted REQUEST (R141). -/
def State.acceptDelivery (s : State) (o : Fin 16) (x : Order) (room : Nat) : State :=
  let permitted := min x.ordered room
  let y : Order :=
    { x with state := .active, permitted := permitted, gross := 0, net := 0, posted := 0, lastTemp := 0,
             startTime := s.stamp, startValid := s.mgt.timeValid, endTime := 0, endCause := none, record := none }
  (((s.setOrder o (some y)).modTank x.tank (fun t => { t with delivery := some x.reference })).reservePlace).raise
    .deliveryStart x.reference ([BitVec.ofNat 8 x.tank.val] ++ beBytes 4 permitted)

/-- A REQUEST (R141). -/
def State.deliveryRequest (s : State) (o : Fin 16) (x : Order) (tanker : Nat) (tank : Fin 8) (product : Fin 6) :
    State × List Byte :=
  match x.state with
  | .pending =>
    match s.deliveryChecks x tanker tank product with
    | .error code =>
      let s := s.refuseDelivery o x code
      (s, s.orderAnswer code.code o)
    | .ok room =>
      let s := s.acceptDelivery o x room
      (s, s.orderAnswer answerAccepted o)
  | .active =>
    (s, s.orderAnswer (if tank = x.tank ∧ product = x.product then answerAccepted else answerMismatch) o)
  | _ => (s, s.orderAnswer (settledResult x) o)

/-- The delivered net of a cumulative gross at a temperature (R71). -/
def State.deliveredNet (s : State) (x : Order) (gross : Nat) (temp : Int) : Nat :=
  capVolume (corrected gross (vcf (s.beta x.product) (clampTemp temp)))

/-- A progress report for an ACTIVE order that is acted on: the figures, the posting, and the end at the permitted
volume (R142). -/
def State.deliveryReport (s : State) (o : Fin 16) (x : Order) (gross : Nat) (temp : Int) : State :=
  let net := s.deliveredNet x gross temp
  let s := (s.setOrder o
    (some { x with gross := gross, net := net, posted := net, lastTemp := clampTemp temp })).postBook x.tank
      ((net : Int) - x.posted)
  if x.permitted ≤ gross then s.endDelivery x.tank .permitReached else s

/-- The result that reports an order as it stands after a report. -/
def State.reportResult (s : State) (o : Fin 16) : Byte :=
  match s.order o with
  | some x => if x.state = .active then answerRunning else settledResult x
  | none => answerNoOrder

/-- A RUNNING frame (R142). -/
def State.deliveryRunning (s : State) (o : Fin 16) (x : Order) (gross : Nat) (temp : Int) : State × List Byte :=
  match x.state with
  | .pending => (s, s.orderAnswer answerNotStarted o)
  | .active =>
    if gross < x.gross then (s, s.orderAnswer answerBadGross o)
    else
      let s := s.deliveryReport o x gross temp
      (s, s.orderAnswer (s.reportResult o) o)
  | _ => (s, s.orderAnswer (settledResult x) o)

/-- An END frame: a report, then the end; one that reports less gross than before is answered BAD_GROSS and its
figures are not used, but the delivery ends (R143, section 8.6). -/
def State.deliveryEnd (s : State) (o : Fin 16) (x : Order) (gross : Nat) (temp : Int) : State × List Byte :=
  match x.state with
  | .active =>
    if gross < x.gross then
      let s := s.endDelivery x.tank .tankerEnd
      (s, s.orderAnswer answerBadGross o)
    else
      let s := (s.deliveryReport o x gross temp).endDelivery x.tank .tankerEnd
      (s, s.orderAnswer (s.reportResult o) o)
  | _ => s.deliveryRunning o x gross temp

/-- A frame whose order is held, taken by its phase and the order's state (R140). -/
def State.deliveryPhase (s : State) (o : Fin 16) (x : Order) (f : DeliveryFrame) : State × List Byte :=
  match f.phase with
  | .request tank product =>
    if f.tanker ≠ x.tanker ∧ x.state ≠ .pending then (s, s.orderAnswer answerMismatch o)
    else s.deliveryRequest o x f.tanker tank product
  | .running gross temp =>
    if f.tanker ≠ x.tanker then (s, s.orderAnswer answerMismatch o) else s.deliveryRunning o x gross temp
  | .ended gross temp =>
    if f.tanker ≠ x.tanker then (s, s.orderAnswer answerMismatch o) else s.deliveryEnd o x gross temp

/-- A REQUEST whose reference no order holds raises DELIVERY_REFUSED (R140). -/
def State.noOrder (s : State) (f : DeliveryFrame) : State :=
  match f.phase with
  | .request _ _ => s.raise .deliveryRefused f.reference [answerNoOrder]
  | _ => s

/-- A DELIVERY frame judged as a whole, and its answer (R140). -/
def State.deliveryFrame (s : State) (b : List Byte) : State × List Byte :=
  match parseDelivery b with
  | none => (s, bareAnswer answerMalformed (carriedReference b))
  | some f =>
    if s.commissioned then
      match s.findOrder f.reference with
      | none => (s.noOrder f, bareAnswer answerNoOrder f.reference)
      | some o =>
        match s.order o with
        | none => (s, bareAnswer answerNoOrder f.reference)
        | some x => s.deliveryPhase o x f
    else (s, bareAnswer answerNotCommissioned f.reference)

end Sys2Proof.Machine
end

