-- ==== Sys2Proof/Machine/Operands.lean ====
section
/-! DEFINITION. How a command's operands are read: role records, requests, and the records a request writes
(R14, R173, R185). -/

namespace Sys2Proof.Machine

/-! ### Role records (R14, section 12.2) -/

inductive PanelKey where
  | start
  | stop
  | preset (value : Nat)
  | resume
  | ack
deriving DecidableEq, Repr

/-- A role record within its ranges. -/
inductive RoleRecord where
  | nozzleTag (point : Fin 8) (tag : Nat) (hour : Option Nat)
  | panelEntry (point : Fin 8) (key : PanelKey)
  | gaugeSample (r : GaugeRecord)
  | sumpLevel (sump : Fin 4) (level : Nat)
deriving DecidableEq, Repr

/-- Record length of a role (section 1.7). -/
def Role.length : Role → Nat
  | .nozzleTag => 10
  | .panelEntry => 6
  | .gaugeSample => 13
  | .sumpLevel => 5

/-- The greatest hour value (section 1.7). -/
def hourMax : Nat := 9999999

/-- An optional hour reading in its range; the outer `none` is out of range. -/
def hourAt (b : List Byte) (off w : Nat) : Option (Option Nat) :=
  match optAt b off w with
  | some (some h) => if h ≤ hourMax then some (some h) else none
  | other => other

/-- A NOZZLE_TAG record (section 12.2). -/
def parseNozzleTag (b : List Byte) : Option RoleRecord :=
  match toFin 8 (num b 0 1), hourAt b 5 4 with
  | some p, some h => if num b 1 4 = 0 then none else some (.nozzleTag p (num b 1 4) h)
  | _, _ => none

/-- A key and its value (section 12.7). -/
def parseKey (code value : Nat) : Option PanelKey :=
  match code with
  | 1 => some .start
  | 2 => some .stop
  | 3 => some (.preset value)
  | 4 => some .resume
  | 5 => some .ack
  | _ => none

/-- A PANEL_ENTRY record (section 12.2). -/
def parsePanelEntry (b : List Byte) : Option RoleRecord :=
  match toFin 8 (num b 0 1), parseKey (num b 1 1) (num b 2 4) with
  | some p, some k => some (.panelEntry p k)
  | _, _ => none

/-- A GAUGE_SAMPLE record (section 12.2). -/
def parseGaugeSample (b : List Byte) : Option RoleRecord :=
  match toFin 8 (num b 0 1), flagAt b 1, optAt b 8 4 with
  | some t, some f, some w =>
    some (.gaugeSample { tank := t, fault := f, level := num b 2 4, temp := sgn b 6 2, water := w })
  | _, _, _ => none

/-- A SUMP_LEVEL record (section 12.2). -/
def parseSumpLevel (b : List Byte) : Option RoleRecord :=
  (toFin 4 (num b 0 1)).map (fun k => .sumpLevel k (num b 1 4))

/-- The record at the role base of a payload; absent when it is too short or out of range (R14). -/
def parseRole (role : Role) (base : Nat) (payload : List Byte) : Option RoleRecord :=
  if payload.length < base + role.length then none
  else
    let b := payload.drop base
    match role with
    | .nozzleTag => parseNozzleTag b
    | .panelEntry => parsePanelEntry b
    | .gaugeSample => parseGaugeSample b
    | .sumpLevel => parseSumpLevel b

/-! ### Requests (R173, section 12.4) -/

/-- A management request. -/
structure Request where
  /-- source of the request's frame, to which the response goes -/
  source : Nat
  access : Nat
  object : Nat
  index : Nat
  echo : Byte
  params : List Byte
deriving DecidableEq, Repr

/-- The request that a frame carries; bytes that its payload lacks of the first five are read as 0 (R173). -/
def readRequest (f : Frame) : Request :=
  let b := framePayload f ++ List.replicate (5 - (framePayload f).length) 0
  { source := frameSource f, access := num b 0 1, object := num b 1 1, index := num b 2 2,
    echo := BitVec.ofNat 8 (num b 4 1), params := b.drop 5 }

/-- A frame that is a management request (R4). -/
def isRequest (f : Frame) : Bool := decide (frameDest f = 0) && decide (frameKind f = kindRequest)

/-- Too short to hold the access type, object number, index and echo byte (R173). -/
def requestTooShort (f : Frame) : Bool := decide ((framePayload f).length < 5)

/-- The object numbers of section 12.4. -/
def objectKnown (n : Nat) : Bool :=
  (decide (0x01 ≤ n) && decide (n ≤ 0x0F)) || (decide (0x20 ≤ n) && decide (n ≤ 0x3E))

/-- An enumeration code that is one of a list of values (R183: the first listed takes 1). -/
def enumAt {α : Type} (values : List α) (b : List Byte) (off : Nat) : Option α :=
  if num b off 1 = 0 then none else values[num b off 1 - 1]?

/-- A level of 1 BAY_STOP or 2 ISOLATE (section 12.7). -/
def levelAt (b : List Byte) (off : Nat) : Option Level := enumAt [.bayStop, .isolate] b off

/-- A number at or below a bound. -/
def upTo (bound n : Nat) : Option Nat := if n ≤ bound then some n else none

/-- A number within two bounds. -/
def within (lo hi n : Nat) : Option Nat := if lo ≤ n ∧ n ≤ hi then some n else none

/-! ### Records written (R185) -/

/-- A product record of 12 bytes (section 4.2); the inner `none` is an undefined record. -/
def parseProduct (b : List Byte) : Option (Option Product) := do
  let defined ← flagAt b 0
  if defined then
    let kind ← enumAt [ProductKind.fuel, .lube, .fluid] b 1
    let beta ← upTo 2000 (num b 2 2)
    let temp := sgn b 4 2
    if temp < -500 ∨ 800 < temp then none
    else
      let least ← upTo 100000 (num b 6 3)
      let slow ← upTo 1000000 (num b 9 3)
      some (some { kind := kind, beta := beta, defaultTemp := temp, minDispense := least, slowDown := slow })
  else some none

/-- A tank record of 26 bytes (section 8.1); the inner `none` is out of service. -/
def parseTank (b : List Byte) : Option (Option TankConfig) := do
  let inService ← flagAt b 0
  if inService then
    let product ← toFin 6 (num b 1 1)
    let capacity ← within 1 Config.volumeBound (num b 2 4)
    let gauge ← upTo 62 (num b 6 1)
    let highHigh ← upTo 1000000 (num b 7 3)
    let safe ← upTo Config.volumeBound (num b 10 4)
    let low ← upTo Config.volumeBound (num b 14 4)
    let lockout ← upTo Config.volumeBound (num b 18 4)
    let loss ← upTo Config.volumeBound (num b 22 4)
    some (some { product := product, capacity := capacity, gauge := gauge, highHigh := highHigh, safeFill := safe,
                 low := low, lockout := lockout, lossThreshold := loss })
  else some none

/-- A point record of 16 bytes (section 5.1); the inner `none` is out of service. -/
def parsePoint (b : List Byte) : Option (Option PointConfig) := do
  let inService ← flagAt b 0
  if inService then
    let product ← toFin 6 (num b 1 1)
    let tank ← toFin 8 (num b 2 1)
    let pump ← toFin 4 (num b 3 1)
    let reader ← upTo 62 (num b 4 1)
    let panel ← upTo 62 (num b 5 1)
    let maxFlow ← upTo 600000000 (num b 6 4)
    let lead ← upTo 2000 (num b 10 2)
    let tolerance ← upTo 1000000 (num b 12 3)
    let slowOnly ← flagAt b 15
    some (some { product := product, tank := tank, pump := pump, reader := reader, panel := panel,
                 maxFlow := maxFlow, stopLead := lead, tolerance := tolerance, slowOnly := slowOnly })
  else some none

/-- A channel record of 9 bytes (section 3.1). -/
def parseChannel (b : List Byte) : Option ChannelConfig := do
  let mode ← enumAt [DecodeMode.single, .double, .quad] b 0
  let invert ← flagAt b 1
  let k := num b 3 3
  if k ≠ 0 ∧ (k < 1000 ∨ 4000000 < k) then none
  else
    let creep ← upTo 1000000 (num b 6 3)
    some { mode := mode, invert := invert, glitch := num b 2 1, k := k, creepLimit := creep }

/-- A class record of 16 bytes (section 7.1). -/
def parseClass (b : List Byte) : Option ClassRecord := do
  let maxFill ← upTo Config.volumeBound (num b 0 4)
  let cap ← upTo Config.volumeBound (num b 4 4)
  let tolerance ← upTo 10000 (num b 8 2)
  let span ← within 1 10000 (num b 10 2)
  if num b 14 2 < num b 12 2 then none
  else
    some { maxFill := maxFill, offlineCap := cap, tolerance := tolerance, minSpan := span, bandMin := num b 12 2,
           bandMax := num b 14 2 }

/-! #### Classifier entries (section 1.6) -/

/-- The lengths that a classifier entry's segments declare, from the offset of the first (R173). -/
def segmentBytes : Nat → List Byte → Nat
  | 0, _ => 0
  | n + 1, b => 2 + 2 * num b 1 1 + segmentBytes n (b.drop (2 + 2 * num b 1 1))

/-- The length a classifier entry's own counts give: valid, direction, the segments, then role, role base,
disposition and gate (R173, R185). -/
def classifierLength (b : List Byte) : Nat := 3 + segmentBytes (num b 2 1) (b.drop 3) + 4

/-- A match segment at the head of `b` (R12). -/
def parseSegment (b : List Byte) : Option Segment :=
  let n := num b 1 1
  let mask := slice b 2 n
  let value := slice b (2 + n) n
  if 127 < num b 0 1 ∨ n < 1 ∨ 4 < n then none
  else if (mask.zip value).any (fun e => e.2 &&& ~~~e.1 ≠ 0) then none
  else some { offset := num b 0 1, mask := mask, value := value }

/-- The match segments from the head of `b`. -/
def parseSegments : Nat → List Byte → Option (List Segment)
  | 0, _ => some []
  | n + 1, b =>
    match parseSegment b, parseSegments n (b.drop (2 + 2 * num b 1 1)) with
    | some x, some rest => some (x :: rest)
    | _, _ => none

/-- A role code: 0 NONE, then the roles of section 1.6; the outer `none` is no such code. -/
def roleAt (b : List Byte) (off : Nat) : Option (Option Role) :=
  if num b off 1 = 0 then some none
  else (enumAt [Role.nozzleTag, .panelEntry, .gaugeSample, .sumpLevel] b off).map some

/-- ACT or ACT_PASS (R16). -/
def Disposition.acts : Disposition → Bool
  | .act => true
  | .actPass => true
  | _ => false

/-- PASS or ACT_PASS (R16). -/
def Disposition.forwards : Disposition → Bool
  | .pass => true
  | .actPass => true
  | _ => false

/-- A classifier entry written (R12); the inner `none` is an entry with the valid flag clear. -/
def parseClassifier (b : List Byte) : Option (Option ClassifierEntry) := do
  let valid ← flagAt b 0
  if valid then
    let direction ← enumAt [Direction.fromField, .fromSite] b 1
    let count ← within 1 3 (num b 2 1)
    let segments ← parseSegments count (b.drop 3)
    let tail := b.drop (3 + segmentBytes count (b.drop 3))
    let role ← roleAt tail 0
    let base ← upTo 32 (num tail 1 1)
    let disposition ← enumAt [Disposition.pass, .act, .actPass, .drop] tail 2
    let gated ← flagAt tail 3
    if role.isNone ∧ disposition.acts then none
    else if direction = .fromSite ∧ role.isSome then none
    else
      some (some { direction := direction, segments := segments, role := role, roleBase := base,
                   disposition := disposition, gated := gated })
  else some none

/-! #### Poll list, spill inputs, sumps and orders -/

/-- Configuration of a poll list entry (R18); the inner `none` is station address 0. -/
def parsePollEntry (b : List Byte) (now : Nat) : Option (Option PollEntry) :=
  if num b 0 1 = 0 then some none
  else do
    let station ← upTo 62 (num b 0 1)
    let formats ← within 1 7 (num b 1 1)
    let interval ← within 100 60000 (num b 2 2)
    let staleness ← within 1 600 (num b 4 2)
    let age ← upTo 600 (num b 6 2)
    let critical ← flagAt b 8
    some (some
      { station := station, formats := BitVec.ofNat 8 formats, interval := interval, staleness := staleness,
        recallAge := age, critical := critical, state := .absent, format := none, legacy := false, caps := none,
        stationType := none, matchCount := 0, ackCount := 0, legacyCount := 0, missCount := 0, dueTime := now,
        due := true, dataTime := none, reportedFresh := false })

/-- The four configuration fields of a spill input (R147). -/
structure SpillWrite where
  enabled : Bool
  activeLow : Bool
  debounce : Nat
  level : Level
deriving DecidableEq, Repr

def parseSpill (b : List Byte) : Option SpillWrite := do
  let enabled ← flagAt b 0
  let activeLow ← enumAt [false, true] b 1
  let debounce ← upTo 2000 (num b 2 2)
  let level ← levelAt b 4
  some { enabled := enabled, activeLow := activeLow, debounce := debounce, level := level }

/-- A sump record of 7 bytes (R150): with station 0 the levels are taken as they are carried, a high level above the
high-high level among them (log 53). -/
def parseSump (b : List Byte) : Option SumpConfig :=
  let c : SumpConfig := { station := num b 0 1, high := num b 1 3, highHigh := num b 4 3 }
  if c.station = 0 then some c
  else if 62 < c.station ∨ 1000000 < c.high ∨ 1000000 < c.highHigh ∨ c.highHigh < c.high then none
  else some c

/-- A new PENDING order of 12 bytes (R139). -/
def parseOrder (b : List Byte) : Option Order := do
  let reference ← within 1 65535 (num b 0 2)
  let tanker ← within 1 4294967295 (num b 2 4)
  let tank ← toFin 8 (num b 6 1)
  let product ← toFin 6 (num b 7 1)
  let ordered ← within 1 Config.volumeBound (num b 8 4)
  some { reference := reference, tanker := tanker, tank := tank, product := product, ordered := ordered,
         state := .pending, permitted := 0, gross := 0, net := 0, posted := 0, lastTemp := 0, startTime := 0,
         startValid := false, endTime := 0, endCause := none, record := none }

/-! #### Strapping tables (R66, R184) -/

/-- A strapping point of 8 bytes: its level, then its volume (R184), each in 4 bytes (log 12). -/
def parseStrapPoint (b : List Byte) : Option StrapPoint :=
  match upTo 1000000 (num b 0 4), upTo Config.volumeBound (num b 4 4) with
  | some l, some v => some { level := l, volume := v }
  | _, _ => none

/-- Every item of a list, or nothing. -/
def allOf {α : Type} : List (Option α) → Option (List α)
  | [] => some []
  | x :: rest =>
    match x, allOf rest with
    | some a, some l => some (a :: l)
    | _, _ => none

/-- A whole strapping table: its point count, then its points (R66). -/
def parseStrapping (b : List Byte) : Option (List StrapPoint) :=
  match within 2 32 (num b 0 1) with
  | none => none
  | some c => allOf ((chunks c 8 (b.drop 1)).map parseStrapPoint)

/-! #### Accounts (R113, R184) -/

/-- An allowance entry written: product, allowance and used. -/
def parseAllowance (b : List Byte) : Option Allowance :=
  match toFin 6 (num b 0 1), optAt b 1 4, upTo Config.volumeBound (num b 6 4) with
  | some p, some v, some u =>
    if (v.getD 0) ≤ Config.volumeBound then some { product := p, allowance := v, used := u, committed := 0 }
    else none
  | _, _, _ => none

/-- A service record written: product, interval, minimum volume and hours at last service. -/
def parseService (b : List Byte) : Option Service :=
  match toFin 6 (num b 0 1), within 1 100000 (num b 1 3), within 1 Config.volumeBound (num b 4 4), hourAt b 8 3 with
  | some p, some i, some v, some h =>
    some { product := p, interval := i, minVolume := v, hoursAtLast := h, state := .ok }
  | _, _, _, _ => none

/-- No two entries name the same product. -/
def distinctProducts : List Allowance → Bool
  | [] => true
  | e :: rest => !rest.any (fun x => decide (x.product = e.product)) && distinctProducts rest

/-- Part 1 of an account: tag, class, status, the two flags and the allowance entries. -/
def parseAccountHead (b : List Byte) : Option Account := do
  let tag ← within 1 4294967295 (num b 0 4)
  let cls ← toFin 16 (num b 4 1)
  let suspended ← enumAt [false, true] b 5
  let hoursRequired ← flagAt b 6
  let serviceLock ← flagAt b 7
  let count ← within 1 6 (num b 8 1)
  let entries ← allOf ((chunks count 10 (b.drop 9)).map parseAllowance)
  if distinctProducts entries then
    some { tag := tag, cls := cls, suspended := suspended, hoursRequired := hoursRequired,
           serviceLock := serviceLock, allowances := entries, openCount := 0,
           hours := { lastAccepted := none, wallTime := none, anchor := none, fuel := 0, pending := none,
                      burnRate := none, rejected := 0 },
           services := [] }
  else none

/-- The written fields of the hour record. -/
def parseHours (b : List Byte) : Option HourRecord := do
  let last ← hourAt b 0 3
  let wall ← optAt b 4 4
  let anchor ← hourAt b 9 3
  let fuel ← upTo Config.volumeBound (num b 13 4)
  let burn ← optAt b 17 2
  some { lastAccepted := last, wallTime := wall.map (BitVec.ofNat 32), anchor := anchor, fuel := fuel,
         pending := none, burnRate := burn, rejected := 0 }

/-- Part 2 of an account: the hour record and the service records. -/
def parseAccountTail (b : List Byte) : Option (HourRecord × List Service) := do
  let hours ← parseHours b
  let count ← upTo 4 (num b 20 1)
  let services ← allOf ((chunks count 12 (b.drop 21)).map parseService)
  some (hours, services)

/-- The length that part 1's own count gives. -/
def accountHeadLength (b : List Byte) : Nat := 9 + 10 * num b 8 1

/-- The length that part 2's own count gives. -/
def accountTailLength (b : List Byte) : Nat := 21 + 12 * num b 20 1

/-- A whole account as written, each service record evaluated (R113). -/
def parseAccount (b : List Byte) : Option Account :=
  match parseAccountHead b, parseAccountTail (b.drop (accountHeadLength b)) with
  | some a, some (h, v) => some ({ a with hours := h, services := v } : Account).evaluateServices
  | _, _ => none

/-! #### Run steps (R100, R101) -/

/-- A step of 6 bytes: point, target, pause-after. -/
def parseStep (b : List Byte) : Option RunStep :=
  match toFin 8 (num b 0 1), within 1 Config.volumeBound (num b 1 4), flagAt b 5 with
  | some p, some t, some f => some { point := p, target := t, pauseAfter := f, result := .pending, delivered := 0 }
  | _, _, _ => none

/-- A list of steps with its count at `off`, within bounds. -/
def parseSteps (b : List Byte) (off most : Nat) : Option (List RunStep) :=
  match within 1 most (num b off 1) with
  | none => none
  | some c => allOf ((chunks c 6 (b.drop (off + 1))).map parseStep)

end Sys2Proof.Machine
end

