-- ==== Sys2Proof/Machine/Classifier.lean ====
section
/-! DEFINITION. The frame classifier: matching, forwarding and the hand-off of role records (R13 to R16). -/

namespace Sys2Proof.Machine

/-- A match segment matches a frame (R13). -/
def Segment.matchesFrame (x : Segment) (f : Frame) : Bool :=
  decide (x.offset + x.mask.length ≤ f.length) &&
    ((slice f x.offset x.mask.length).zip (x.mask.zip x.value)).all (fun t => decide (t.1 &&& t.2.1 = t.2.2))

/-- An entry matches a frame taken in a direction (R13). -/
def ClassifierEntry.matchesFrame (e : ClassifierEntry) (d : Direction) (f : Frame) : Bool :=
  decide (e.direction = d) && e.segments.all (fun x => x.matchesFrame f)

/-- The lowest-numbered matching entry (R13). -/
def winnerIn (d : Direction) (f : Frame) : List (Option ClassifierEntry) → Option ClassifierEntry
  | [] => none
  | none :: rest => winnerIn d f rest
  | some e :: rest => if e.matchesFrame d f then some e else winnerIn d f rest

/-- The winning entry of the table (R13). -/
def State.winner (s : State) (d : Direction) (f : Frame) : Option ClassifierEntry := winnerIn d f s.fcl.table.toList

/-- Forward a frame, or bar it at the shutdown gate (R16). -/
def State.forwardFrame (s : State) (d : Direction) (f : Frame) (gated : Bool) : State :=
  match d with
  | .fromField => if gated ∧ s.ssd.level ≠ .normal then s.countSite siteDrop else s.offerSite f
  | .fromSite => if gated ∧ s.ssd.level ≠ .normal then s.countField forwardDrop else s.offerForward f gated

/-- The station configured for the object a record names; 0 where there is none (R15). -/
def State.recordStation (s : State) : RoleRecord → Nat
  | .nozzleTag p _ _ => (s.point p).reader
  | .panelEntry p _ => (s.point p).panel
  | .gaugeSample r => ((s.tank r.tank).config.map (·.gauge)).getD 0
  | .sumpLevel k _ => (s.sump k).config.station

/-- A panel key (R84 to R87, R107). -/
def State.panelKey (s : State) (p : Fin 8) : PanelKey → State
  | .start => s.startKey p
  | .stop => s.toStopping p .driverStop
  | .preset v => s.presetKey p v
  | .resume => s.resumeKey p
  | .ack => s.ackKey p

/-- A role record handed to its owning block (section 1.7). -/
def State.handOff (s : State) : RoleRecord → State
  | .nozzleTag p tag hour => s.tagRead p tag hour
  | .panelEntry p key => s.panelKey p key
  | .gaugeSample r => s.gaugeSample r
  | .sumpLevel k level => s.sumpSample k level

/-- The act of a winning entry: R14's checks, the source check of R15, the hand-off. -/
def State.act (s : State) (e : ClassifierEntry) (f : Frame) : State :=
  match e.role with
  | none => s
  | some role =>
    match parseRole role e.roleBase (framePayload f) with
    | none => s.countField roleError
    | some r =>
      if frameSource f ≠ 0 ∧ frameSource f = s.recordStation r then s.handOff r else s.countField roleError

/-- A frame taken by the classifier: forwarded first, then acted on (R13, R16). -/
def State.classify (s : State) (d : Direction) (f : Frame) : State :=
  match s.winner d f with
  | none =>
    let s := s.countField unclassified
    let pass := match d with | .fromField => s.mgt.params.fieldPass | .fromSite => s.mgt.params.sitePass
    if pass then s.forwardFrame d f false else s
  | some e =>
    let s := if e.disposition.forwards then s.forwardFrame d f e.gated else s
    if e.disposition.acts then s.act e f else s

end Sys2Proof.Machine
end

