-- ==== Sys2Proof/Machine/Segment.lean ====
section
/-! DEFINITION. The segment master: freshness, joining, exchanges, the arbiter and loans (chapter 2). -/

namespace Sys2Proof.Machine

/-- Change a poll list entry in use. -/
def State.modPoll (s : State) (e : Fin 32) (f : PollEntry → PollEntry) : State :=
  match s.entry e with
  | none => s
  | some x => s.setEntry e (some (f x))

/-- The entry in use that holds a station's address. -/
def State.findStation (s : State) (station : Nat) : Option (Fin 32) :=
  all32.find? (fun e => match s.entry e with | none => false | some x => decide (x.station = station))

/-! ### Freshness (R25) -/

/-- A good data frame from a station: its entry's data time, and the report that its data is fresh (R25). -/
def State.noteData (s : State) (station : Nat) : State :=
  match s.findStation station with
  | none => s
  | some e =>
    (s.modPoll e (fun x => { x with dataTime := some s.ms, reportedFresh := true })).reportFresh station

/-! ### Joining (R24, R26 to R30) -/

/-- Live fields reset as for a write that keeps the address: the state is ABSENT and the entry is due at once
(R18). -/
def PollEntry.rearm (x : PollEntry) (now : Nat) : PollEntry :=
  { x with state := .absent, format := none, legacy := false, caps := none, stationType := none, matchCount := 0,
           ackCount := 0, legacyCount := 0, missCount := 0, dueTime := now, due := true }

/-- Bit `n` of a byte. -/
def hasBit (b : Byte) (n : Nat) : Bool := b.getLsbD n

/-- The highest format in caps seen and the allowed formats (R28). -/
def bestFormat (caps allowed : Byte) : Option Nat :=
  if hasBit caps 2 && hasBit allowed 2 then some 2
  else if hasBit caps 1 && hasBit allowed 1 then some 1
  else if hasBit caps 0 && hasBit allowed 0 then some 0
  else none

/-- An entry that goes to INCOMPATIBLE (R28, R29). R29 names no detail for a legacy station: it carries caps seen, or
0 where they are absent, as R28's does (log 45). -/
def State.incompatible (s : State) (e : Fin 32) (x : PollEntry) : State :=
  (s.setEntry e (some { x with state := .incompatible, due := false })).raise .stationIncompatible e.val
    [x.caps.getD 0]

/-- An entry that goes to ACTIVE at a format; `mark` is the detail after the format (R28, R29). -/
def State.joined (s : State) (e : Fin 32) (x : PollEntry) (format : Nat) (legacy : Bool) (mark : Byte) : State :=
  (s.setEntry e (some { x with state := .active, format := some format, legacy := legacy, matchCount := 0,
                               ackCount := 0, legacyCount := 0, missCount := 0 })).raise .stationJoined e.val
    [BitVec.ofNat 8 format, mark]

/-- The format resolved at the third acknowledged ANNOUNCE (R28). -/
def State.resolve (s : State) (e : Fin 32) (x : PollEntry) : State :=
  match bestFormat (x.caps.getD 0) x.formats with
  | none => s.incompatible e x
  | some f => s.joined e x f false (x.stationType.getD 0)

/-- JOINING with the ANNOUNCE's caps and type, match count 1 (R24, R26, R27). -/
def PollEntry.restart (x : PollEntry) (caps kind : Byte) : PollEntry :=
  { x with state := .joining, caps := some caps, stationType := some kind, matchCount := 1, ackCount := 0,
           legacyCount := 0, missCount := 0 }

/-- An ANNOUNCE in JOINING (R26). -/
def PollEntry.announceJoining (x : PollEntry) (caps kind : Byte) : PollEntry :=
  if x.caps = some caps then
    let x := { x with stationType := some kind, matchCount := x.matchCount + 1, legacyCount := 0, missCount := 0 }
    if x.matchCount = 3 then { x with state := .acking, ackCount := 0 } else x
  else x.restart caps kind

/-- An ANNOUNCE in ACKING (R27). -/
def State.announceAcking (s : State) (e : Fin 32) (x : PollEntry) (caps kind : Byte) (echo : Bool) : State :=
  if x.caps = some caps then
    if echo then
      let x := { x with ackCount := x.ackCount + 1, missCount := 0 }
      if x.ackCount = 3 then s.resolve e x else s.setEntry e (some x)
    else s.setEntry e (some { x with ackCount := 0, missCount := 0 })
  else s.setEntry e (some (x.restart caps kind))

/-- An ANNOUNCE taken as the good reply to a JOIN_QUERY (R26, R27) or as a good reply to a POLL (R24); its payload
is capability byte, type, echo (R183). A further ANNOUNCE of the same burst changes nothing (R24). -/
def State.announce (s : State) (e : Fin 32) (x : PollEntry) (query : Bool) (payload : List Byte) : State :=
  let caps := payload.getD 0 0
  let kind := payload.getD 1 0
  let echo := decide (payload.getD 2 0 ≠ 0)
  match query, x.state with
  | false, .active => s.setEntry e (some { x.restart caps kind with format := none, legacy := false })
  | false, .silent => s.setEntry e (some { x.restart caps kind with format := none, legacy := false })
  | true, .absent => s.setEntry e (some (x.restart caps kind))
  | true, .joining => s.setEntry e (some (x.announceJoining caps kind))
  | true, .acking => s.announceAcking e x caps kind echo
  | _, _ => s

/-- A reply to JOIN_QUERY that is not an ANNOUNCE, in ABSENT or JOINING (R29). -/
def State.legacyReply (s : State) (e : Fin 32) (x : PollEntry) : State :=
  let x := { x with legacyCount := x.legacyCount + 1, missCount := 0 }
  if x.legacyCount = 2 then
    if hasBit x.formats 0 then s.joined e x 0 true 1 else s.incompatible e x
  else s.setEntry e (some x)

/-- A good reply to JOIN_QUERY that is not an ANNOUNCE (R27, R29). -/
def State.plainReply (s : State) (e : Fin 32) (x : PollEntry) : State :=
  match x.state with
  | .absent | .joining => s.legacyReply e x
  | .acking =>
    s.setEntry e (some { x with state := .joining, matchCount := 0, ackCount := 0, legacyCount := 1,
                                missCount := 0 })
  | _ => s

/-! ### Exchanges (R19 to R23, R30) -/

/-- Interval of the state an entry is in (R19). An INCOMPATIBLE entry is never due and R19 gives it none; it takes 500 ms,
which only a read of its due time shows (the model's choice, log 56). -/
def PollEntry.interval' (x : PollEntry) : Nat :=
  match x.state with
  | .active => x.interval
  | .silent => Config.silentIntervalMs
  | _ => Config.joinIntervalMs

/-- A miss (R23, R30); true when an ACTIVE entry goes SILENT. -/
def PollEntry.miss (x : PollEntry) : PollEntry × Bool :=
  let n := inc8 x.missCount
  match x.state with
  | .active => if 3 ≤ n then ({ x with missCount := n, state := .silent }, true) else ({ x with missCount := n }, false)
  | .joining | .acking =>
    if 3 ≤ n then
      ({ x with state := .absent, caps := none, stationType := none, matchCount := 0, ackCount := 0,
                legacyCount := 0, missCount := 0 }, false)
    else ({ x with missCount := n }, false)
  | _ => ({ x with missCount := n }, false)

/-- The outcome of an exchange applied to its entry (R23, R30). -/
def State.applyOutcome (s : State) (e : Fin 32) (x : PollEntry) (good : Nat) : State :=
  if good = 0 then
    let m := x.miss
    let s := (s.setEntry e (some m.1)).countField pollMiss
    if m.2 then s.raise .stationSilent e.val [] else s
  else if x.state = .silent then
    (s.setEntry e (some { x with state := .active, missCount := 0 })).raise .stationJoined e.val [1]
  else s.setEntry e (some { x with missCount := 0 })

/-- The next due time of an entry after an exchange that began at `start` (R19). -/
def State.reschedule (s : State) (e : Fin 32) (start : Nat) : State :=
  s.modPoll e (fun x => { x with dueTime := start + x.interval', due := false })

/-- The exchange is over: a frame received or held loses its place in the reply window, and the segment is free once
the line has been idle for 3 character times from now (R21). -/
def Fsm.closeWindow (m : Fsm) (clock : Nat) : Fsm :=
  { m with exchange := none, hold := m.hold.map (fun h => { h with inWindow := false }),
           receiving := m.receiving.map (fun _ => { inWindow := false }),
           freeAt := max m.freeAt (clock + Config.segmentIdleUs) }

/-- The grant of the segment to the guest (R32). It does not wait for the end of a DELIVERY_ANSWER of the loan before,
which goes on to be sent (the model's choice, log 61). -/
def State.grantLoan (s : State) : State :=
  (s.setFsm { s.fsm with loan := .lent, grantedAt := s.ms, recalled := false, overrun := false,
                         recallDue := none }).raise .loanGranted noSource []

/-- In GRANTING with no exchange in progress, the loan is granted (R32). -/
def State.tryGrant (s : State) : State :=
  if s.fsm.loan = .granting ∧ s.fsm.exchange = none then s.grantLoan else s

/-- The end of a poll exchange: its outcome, the next due time, and a grant that waited for it (R19, R21, R23,
R32). Nothing is applied to an entry rewritten meanwhile (R18). That LOAN_GRANTED comes after the event of the outcome
is the model's choice (log 10). -/
def State.endExchange (s : State) (x : PollExchange) : State :=
  let s := s.setFsm (s.fsm.closeWindow s.clock)
  (match x.live, s.entry x.entry with
    | true, some e => (s.applyOutcome x.entry e x.goodReplies).reschedule x.entry x.start
    | _, _ => s).tryGrant

/-! ### Loans (R31 to R36) -/

/-- Every critical entry is ACTIVE with fresh data (R31). -/
def State.criticalReady (s : State) : Bool :=
  all32.all (fun e =>
    match s.entry e with
    | none => true
    | some x => !x.critical || (decide (x.state = .active) && x.isFresh s.ms))

/-- A loan request answered while MASTER (R31); with no exchange in progress the grant follows at once (R32). -/
def State.loanEval (s : State) : State :=
  if s.fsm.loan = .master ∧ s.fsm.lrq ∧ s.mgt.params.loanEnable ∧ s.criticalReady then
    (s.setFsm { s.fsm with loan := .granting }).tryGrant
  else s

/-- A recall cause arises: the first sets the flag and starts the recall timeout (R34). The timeout runs for the bay
parameter as it stands then; that a later write of it leaves the running timeout is the model's choice (log 55). -/
def State.raiseRecall (s : State) : State :=
  if s.fsm.recalled then s
  else
    s.setFsm { s.fsm with recalled := true, recallDue := some (s.ms + s.mgt.params.recallTimeout * 1000) }

/-- Seconds since the grant, as an event carries them (R35, R36). -/
def State.loanSeconds (s : State) : List Byte := beBytes 4 ((s.ms - s.fsm.grantedAt) / 1000)

/-- The end of a loan: LOAN_ENDED, and TKS is told (R36, R144). That LOAN_ENDED joins the queue before the DELIVERY_END
of a delivery that it ends is the model's choice (log 10). -/
def State.endLoan (s : State) : State :=
  ((s.setFsm { s.fsm with loan := .master, recalled := false, recallDue := none, answer := none }).raise .loanEnded
    noSource (s.loanSeconds ++ flagByte s.fsm.overrun)).endDeliveries .loanEnded

/-! ### The arbiter (R20) -/

/-- The head of the forward queue, unless its 5 s have run (R11, R20). -/
def State.forwardCandidate (s : State) : Option Forward :=
  match s.fsm.queue with
  | [] => none
  | f :: _ => if s.ms - f.joined < Config.forwardAgeMs then some f else none

/-- The better of two due entries: the earlier due time, the lower index between equals (R20). -/
def betterDue (best : Option (Fin 32 × PollEntry)) (e : Fin 32) (x : PollEntry) : Option (Fin 32 × PollEntry) :=
  match best with
  | none => some (e, x)
  | some b => if x.dueTime < b.2.dueTime then some (e, x) else some b

/-- The due entry with the earliest due time (R20). -/
def State.pollCandidate (s : State) : Option (Fin 32 × PollEntry) :=
  all32.foldl (fun best e =>
    match s.entry e with
    | none => best
    | some x => if x.due then betterDue best e x else best) none

/-- The segment is free: no exchange, no frame being received, and the line idle for 3 character times (R20). -/
def State.segmentFree (s : State) : Bool :=
  decide (s.fsm.exchange = none) && s.fsm.receiving.isNone && decide (s.fsm.freeAt ≤ s.clock)

/-- A grant to the head of the forward queue (R9, R20). -/
def State.grantForward (s : State) (f : Forward) : State :=
  s.setFsm { s.fsm with queue := s.fsm.queue.drop 1, exchange := some .forward, lineOut := some f.frame,
                        lastGrant := .forwardQueue }

/-- An entry sends JOIN_QUERY, not POLL, in ABSENT, JOINING and ACKING (R19). -/
def PollEntry.queries (x : PollEntry) : Bool :=
  match x.state with
  | .active => false
  | .silent => false
  | _ => true

/-- The frame an entry sends (R19, R183). -/
def PollEntry.pollFrame (x : PollEntry) : Frame :=
  if x.queries then makeFrame x.station kindJoinQuery [if x.state = .acking then 1 else 0]
  else makeFrame x.station kindPoll [BitVec.ofNat 8 (x.format.getD 0)]

/-- Burst size (R21). -/
def PollEntry.burst (x : PollEntry) : Nat :=
  if x.queries then 1
  else
    match x.format.getD 0 with
    | 0 => 1
    | 1 => 4
    | _ => 8

/-- A grant to an entry begins a poll exchange (R20, R21). -/
def State.grantPoll (s : State) (e : Fin 32) (x : PollEntry) : State :=
  (s.setFsm { s.fsm with
    exchange := some (.poll { entry := e, station := x.station, query := x.queries, burst := x.burst, start := s.ms,
                              deadline := none, goodReplies := 0, live := true }),
    lineOut := some x.pollFrame, lastGrant := .poll }).modPoll e (fun x => { x with due := false })

/-- The exchange in progress with an entry is not applied to it once it is rewritten (R18). -/
def Fsm.disown (m : Fsm) (e : Fin 32) : Fsm :=
  match m.exchange with
  | some (.poll x) => if x.entry = e then { m with exchange := some (.poll { x with live := false }) } else m
  | _ => m

/-! ### Field frames (R21, R22, R33) -/

/-- FSM's action on a good reply's entry (R22, R24, R26, R27, R29). -/
def State.replyEntry (s : State) (x : PollExchange) (f : Frame) : State :=
  match x.live, s.entry x.entry with
  | true, some e =>
    if isAnnounce f then
      if frameDest f = 0 then s.announce x.entry e x.query (framePayload f) else s
    else if x.query then s.plainReply x.entry e
    else s
  | _, _ => s

/-- A good reply counted toward the burst, which ends the exchange when it is complete (R21). -/
def State.countReply (s : State) (x : PollExchange) : State :=
  let x := { x with goodReplies := x.goodReplies + 1 }
  if x.burst ≤ x.goodReplies then s.endExchange x else s.setFsm { s.fsm with exchange := some (.poll x) }

/-- A good reply: its data time, the join rules, the classifier, and the burst (R22, R25). An ANNOUNCE addressed to
another station than 0 changes no entry as it is taken (R24), but is counted toward the burst as R22 counts every good
reply (log 44). The order of the events that one reply brings is the model's choice (log 10). -/
def State.goodReply (s : State) (x : PollExchange) (f : Frame) : State :=
  let s := if isAnnounce f then s else s.noteData (frameSource f)
  let s := s.replyEntry x f
  let s := if frameDest f = 0 then s else s.classify .fromField f
  s.countReply x

/-- A frame judged while the part is master (R22). -/
def State.judgeReply (s : State) (h : Held) : State :=
  match h.inWindow, s.fsm.exchange with
  | true, some (.poll x) =>
    if frameSource h.frame = x.station then s.goodReply x h.frame else s.countField unsolicited
  | _, _ => s.countField unsolicited

/-- A DELIVERY frame passed to TKS, and the answer it supplies (R33). -/
def State.takeDelivery (s : State) (h : Held) : State :=
  let out := s.deliveryFrame (framePayload h.frame)
  out.1.setFsm { out.1.fsm with
    answer := some { frame := makeFrame (frameSource h.frame) kindDeliveryAnswer out.2, endedAt := h.endedAt } }

/-- A frame snooped during a loan (R33). One for station 0 that is neither DELIVERY nor ANNOUNCE is counted as
unsolicited and sets its station's data time, which R25 denies to unsolicited frames (log 52). -/
def State.snoop (s : State) (h : Held) : State :=
  let s := if isAnnounce h.frame then s else s.noteData (frameSource h.frame)
  if frameDest h.frame = 0 then
    if frameKind h.frame = kindDelivery then s.takeDelivery h else s.countField unsolicited
  else s.classify .fromField h.frame

end Sys2Proof.Machine
end

