-- ==== Sys2Proof/Machine/Requests.lean ====
section
/-! DEFINITION. How a management request is taken, judged and answered (R172, R173, section 12.4). -/

namespace Sys2Proof.Machine

/-- What a request's rule gives: the state after it, a status, and the data of the response. -/
structure Reply where
  state : State
  status : Status
  data : List Byte
deriving DecidableEq, Repr

/-- Answered OK with data. -/
def State.ok (s : State) (data : List Byte) : Reply := { state := s, status := .ok, data := data }

/-- Refused: no state changes and no data is carried (R172). -/
def State.no (s : State) (status : Status) : Reply := { state := s, status := status, data := [] }

/-- A MGMT_RESPONSE frame (R172, section 12.4). -/
def responseFrame (r : Request) (status : Status) (data : List Byte) : Frame :=
  makeFrame r.source kindResponse
    ([BitVec.ofNat 8 r.access, BitVec.ofNat 8 r.object] ++ beBytes 2 r.index ++ [r.echo, status.code] ++ data)

/-- The response fills the place the request claimed (R172). -/
def Reply.send (x : Reply) (r : Request) : State :=
  x.state.setSpt { x.state.spt with tx := x.state.spt.tx ++ [responseFrame r x.status x.data] }

/-- Take the head of the site receive buffer. -/
def State.popSite (s : State) : State := s.setSpt { s.spt with rx := s.spt.rx.drop 1 }

/-- The request at the head of the site receive buffer, when it is whole, names one of `objects`, and can claim a
place (R6, R8, R172). -/
def State.headRequest (s : State) (objects : List Nat) : Option Request :=
  match s.mgt.softReset, s.spt.rx with
  | none, f :: _ =>
    if isRequest f && !requestTooShort f && objects.contains (readRequest f).object && s.canClaim .management then
      some (readRequest f)
    else none
  | _, _ => none

/-- A management request taken, executed and answered in one step (R172); nothing where none is there to take. -/
def State.serve (s : State) (objects : List Nat) (rule : Request → State → Reply) : State :=
  match s.headRequest objects with
  | none => s
  | some r => (rule r (s.claim .management).popSite).send r

/-! ### The judgements before an object's own rule (R173) -/

/-- Parameters of exactly `n` bytes. -/
def exactly (n : Nat) (params : List Byte) : Bool := decide (params.length = n)

/-- An action: its access type, its length, then its rule (R173). -/
def action (fits : List Byte → Bool) (rule : Request → State → Reply) (r : Request) (s : State) : Reply :=
  if r.access ≠ 3 then s.no .badParam else if fits r.params then rule r s else s.no .badLength

/-- A table that commissioning does not lock: READ or WRITE, the length, then the rule (R173). -/
def table (fitsRead fitsWrite : List Byte → Bool) (read write : Request → State → Reply) (r : Request) (s : State) :
    Reply :=
  match r.access with
  | 1 => if fitsRead r.params then read r s else s.no .badLength
  | 2 => if fitsWrite r.params then write r s else s.no .badLength
  | _ => s.no .badParam

/-- A structural table: a WRITE while COMMISSIONED is LOCKED before its fields are examined (R173). -/
def structural (fitsRead fitsWrite : List Byte → Bool) (read write : Request → State → Reply) : Request → State → Reply :=
  table fitsRead fitsWrite read (fun r s => if s.commissioned then s.no .locked else write r s)

/-- The rule of a record named by the index, BAD_PARAM outside the table. -/
def indexed (n : Nat) (rule : Fin n → Request → State → Reply) (r : Request) (s : State) : Reply :=
  match toFin n r.index with
  | none => s.no .badParam
  | some i => rule i r s

/-- The bytes that a table keeps beside a record just written: those of a record with its first flag clear, which is
written whole too (R12, R18, R56, R72), and none for any other. -/
def keptBytes {α : Type} (x : Option α) (written : List Byte) : List Byte :=
  match x with
  | none => written
  | some _ => []

/-! ### The link (R178) -/

/-- The link silence timer restarts with its parameter; 0 stops it (R178). It is counted in whole ms of uptime, rounded
down (the model's choice, log 1). -/
def State.restartSilence (s : State) : State :=
  let t := s.mgt.params.linkSilence
  s.setMgt { s.mgt with silenceDue := if t = 0 then none else some (s.ms + t * 1000) }

/-- The end gap of a valid site frame (R178). ONLINE carries the whole seconds spent OFFLINE, rounded down (log 14). -/
def State.hearSite (s : State) : State :=
  if s.mgt.online then s.restartSilence
  else
    ((s.setMgt { s.mgt with online := true }).raise .online noSource
      (beBytes 4 ((s.ms - s.mgt.offlineSince) / 1000))).restartSilence

end Sys2Proof.Machine
end

