-- ==== Sys2Proof/Machine/Traffic.lean ====
section
/-! DEFINITION. The frame, segment and loan commands (chapters 1 and 2). -/

namespace Sys2Proof.Machine

abbrev Result := Host.Outcome State Fault Refusal

/-! ### The site link -/

/-- An invalid site frame counted under its first fault (R2). -/
def siteFault (x : FrameFault) (c : SiteCounters) : SiteCounters :=
  match x with
  | .framing => { c with framingErrors := inc16 c.framingErrors }
  | .length => { c with lengthErrors := inc16 c.lengthErrors }
  | .check => { c with checkErrors := inc16 c.checkErrors }

/-- A valid site frame joins the site receive buffer or is lost to overrun (R6). -/
def State.receiveSite (s : State) (f : Frame) : State :=
  if s.spt.rx.length < Config.siteRxSize then s.setSpt { s.spt with rx := s.spt.rx ++ [f] }
  else s.countSite (fun c => { c with overruns := inc16 c.overruns })

/-- SITE_FRAME_END (R2, R4, R6). -/
def execSiteFrameEnd (chars : Frame) (framingError : Bool) (s : State) : Result :=
  match judgeFrame chars framingError with
  | some x => .next (s.countSite (siteFault x))
  | none =>
    .next (((s.countSite (fun c => { c with received := inc16 c.received })).receiveSite chars).hearSite)

/-- The status of a request that names no row of the table: too short, or no such object (R173). -/
def unservedStatus (f : Frame) : Option Status :=
  if requestTooShort f then some .badLength
  else if objectKnown (readRequest f).object then none
  else some .notFound

/-- A request that is too short or names no object, answered when it can claim a place (R173, log 3). -/
def State.answerUnserved (s : State) (f : Frame) : State :=
  match unservedStatus f with
  | none => s
  | some status =>
    if s.canClaim .management then ((s.claim .management).popSite.no status).send (readRequest f) else s

/-- SITE_FRAME_ROUTED (R4, R6); no frame is taken while a soft reset waits (R179). -/
def execSiteFrameRouted (s : State) : Result :=
  match s.mgt.softReset, s.spt.rx with
  | none, f :: _ =>
    if isRequest f then .next (s.answerUnserved f)
    else if frameDest f = 0 then .next s.popSite
    else .next (s.popSite.classify .fromSite f)
  | _, _ => .next s

/-- SITE_FRAME_SENT (R7, R179). -/
def execSiteFrameSent (s : State) : Result :=
  match s.spt.tx with
  | [] => .next s
  | _ :: rest =>
    .next ((s.setSpt { s.spt with tx := rest }).setMgt
      { s.mgt with softReset := s.mgt.softReset.map (fun n => n - 1) })

/-- EVENT_MOVED (R8, R167). -/
def execEventMoved (s : State) : Result :=
  match s.jev.queue with
  | [] => .next s
  | e :: rest =>
    if s.canClaim .event then
      let s := s.claim .event
      .next ((s.setJev { s.jev with queue := rest }).setSpt { s.spt with tx := s.spt.tx ++ [eventFrame e] })
    else .next s

/-! ### The bay segment -/

/-- An invalid field frame counted under its first fault (R2). -/
def fieldFault (x : FrameFault) (c : FieldCounters) : FieldCounters :=
  match x with
  | .framing => { c with framingErrors := inc16 c.framingErrors }
  | .length => { c with lengthErrors := inc16 c.lengthErrors }
  | .check => { c with checkErrors := inc16 c.checkErrors }

/-- A frame that begins now begins within the reply deadline (R21, R22). -/
def State.inWindowNow (s : State) : Bool :=
  match s.fsm.exchange with
  | some (.poll x) => match x.deadline with | none => false | some d => decide (s.clock ≤ d)
  | _ => false

/-- FIELD_FRAME_START (R1, R21). While the part drives the line it does not receive. -/
def execFieldFrameStart (s : State) : Result :=
  if s.driving || s.fsm.receiving.isSome then .next s
  else .next (s.setFsm { s.fsm with receiving := some { inWindow := s.inWindowNow } })

/-- A frame received within a window that is invalid ends the exchange (R21). -/
def State.endIfInvalid (s : State) (inWindow : Bool) : State :=
  match inWindow, s.fsm.exchange with
  | true, some (.poll x) => s.endExchange x
  | _, _ => s

/-- The inter-frame deadline counts from the end gap of a valid frame of the polled station (R21, R22). -/
def Fsm.extend (m : Fsm) (inWindow : Bool) (f : Frame) (clock : Nat) : Fsm :=
  match inWindow, m.exchange with
  | true, some (.poll x) =>
    if frameSource f = x.station then
      { m with exchange := some (.poll { x with deadline := some (clock + Config.nextReplyUs) }) }
    else m
  | _, _ => m

/-- A valid field frame enters the receive hold or is lost to overrun (R5). -/
def State.holdFrame (s : State) (f : Frame) (inWindow : Bool) : State :=
  match s.fsm.hold with
  | none => s.setFsm { s.fsm with hold := some { frame := f, inWindow := inWindow, endedAt := s.clock } }
  | some _ => s.countField (fun c => { c with overruns := inc16 c.overruns })

/-- The frame ending now began within a reply deadline (R22); one whose start was not reported began now. -/
def State.endingInWindow (s : State) : Bool :=
  match s.fsm.receiving with
  | some r => r.inWindow
  | none => s.inWindowNow

/-- FIELD_FRAME_END (R2, R5, R21). -/
def execFieldFrameEnd (chars : Frame) (framingError : Bool) (s : State) : Result :=
  if s.driving then .next s
  else
    let inWindow := s.endingInWindow
    let s := s.setFsm { s.fsm with receiving := none, freeAt := max s.fsm.freeAt s.clock }
    match judgeFrame chars framingError with
    | some x => .next (((s.countField (fieldFault x)).endIfInvalid inWindow).loanEval)
    | none =>
      let s := s.countField (fun c => { c with received := inc16 c.received })
      .next (((s.setFsm (s.fsm.extend inWindow chars s.clock)).holdFrame chars inWindow).loanEval)

/-- FIELD_FRAME_TAKEN (R5, R22, R33). -/
def execFieldFrameTaken (s : State) : Result :=
  match s.fsm.hold with
  | none => .next s
  | some h =>
    let s := s.setFsm { s.fsm with hold := none }
    let s := if s.fsm.loan = .lent then s.snoop h else s.judgeReply h
    s.loanEval.done

/-- SEGMENT_GRANT (R20). A grant that is not contested counts as the arbiter's last grant too, also before the first
contested one after a reset (the model's choice, log 60). -/
def execSegmentGrant (s : State) : Result :=
  if s.segmentFree ∧ s.fsm.loan = .master then
    match s.forwardCandidate, s.pollCandidate with
    | some f, some (e, x) =>
      if s.fsm.lastGrant = .forwardQueue then .next (s.grantPoll e x) else .next (s.grantForward f)
    | some f, none => .next (s.grantForward f)
    | none, some (e, x) => .next (s.grantPoll e x)
    | none, none => .next s
  else .next s

/-- FORWARD_FRAME_SENT (R20, R32). -/
def execForwardFrameSent (s : State) : Result :=
  match s.fsm.exchange with
  | some .forward =>
    .next ((s.setFsm { s.fsm with exchange := none, freeAt := s.clock + Config.segmentIdleUs }).tryGrant)
  | _ => .next s

/-- POLL_FRAME_SENT: the reply window opens (R21). -/
def execPollFrameSent (s : State) : Result :=
  match s.fsm.exchange with
  | some (.poll x) =>
    if x.deadline.isNone then
      .next (s.setFsm { s.fsm with
        exchange := some (.poll { x with deadline := some (s.clock + Config.firstReplyUs) }),
        freeAt := s.clock + Config.segmentIdleUs })
    else .next s
  | _ => .next s

/-- A frame that began within its deadline is being received or waits to be judged (R21). -/
def State.replyInHand (s : State) : Bool :=
  (match s.fsm.receiving with | none => false | some r => r.inWindow) ||
    (match s.fsm.hold with | none => false | some h => h.inWindow)

/-- REPLY_WINDOW_TIMEOUT (R21, R23). -/
def execReplyWindowTimeout (s : State) : Result :=
  match s.fsm.exchange with
  | some (.poll x) =>
    match x.deadline with
    | none => .next s
    | some d => if d ≤ s.clock ∧ !s.replyInHand then .next (s.endExchange x).loanEval else .next s
  | _ => .next s

/-- The entry's poll exchange is in progress and its outcome will be applied. -/
def Fsm.polls (m : Fsm) (e : Fin 32) : Bool :=
  match m.exchange with
  | some (.poll x) => x.live && decide (x.entry = e)
  | _ => false

/-- ENTRY_DUE (R19). -/
def execEntryDue (entry : Fin 32) (s : State) : Result :=
  match s.entry entry with
  | none => .next s
  | some x =>
    if x.state ≠ .incompatible ∧ x.dueTime ≤ s.ms ∧ !s.fsm.polls entry then
      .next (s.setEntry entry (some { x with due := true }))
    else .next s

/-- STATION_DATA_STALE (R25). -/
def execStationDataStale (entry : Fin 32) (s : State) : Result :=
  match s.entry entry with
  | none => .next s
  | some x =>
    if x.reportedFresh ∧ !x.isFresh s.ms then
      ((s.setEntry entry (some { x with reportedFresh := false })).reportStale x.station).done
    else .next s

/-- FORWARD_FRAME_AGED: the frames whose 5 s have run leave, each a forward drop (R11). -/
def execForwardFrameAged (s : State) : Result :=
  let aged := fun (f : Forward) => decide (Config.forwardAgeMs ≤ s.ms - f.joined)
  let gone := (s.fsm.queue.filter aged).length
  .next ((s.setFsm { s.fsm with queue := s.fsm.queue.filter (fun f => !aged f) }).countField
    (fun c => { c with forwardDrops := min (c.forwardDrops + gone) 65535 }))

/-! ### Loans -/

/-- LRQ_RISE (R31). -/
def execLrqRise (s : State) : Result := .next (s.setFsm { s.fsm with lrq := true }).loanEval

/-- LRQ_FALL (R32, R36). -/
def execLrqFall (s : State) : Result :=
  let t := s.setFsm { s.fsm with lrq := false }
  match s.fsm.loan with
  | .master => .next t
  | .granting => .next (t.setFsm { t.fsm with loan := .master })
  | .lent => .next t.endLoan

/-- LOAN_LIMIT_REACHED (R34). -/
def execLoanLimitReached (s : State) : Result :=
  let limit := s.mgt.params.loanLimit
  if s.fsm.loan = .lent ∧ limit ≠ 0 ∧ limit * 1000 ≤ s.ms - s.fsm.grantedAt then .next s.raiseRecall else .next s

/-- The recall age of an ACTIVE entry is reached, counted from the later of its data time and the grant (R34). -/
def PollEntry.recallReached (x : PollEntry) (ms grantedAt : Nat) : Bool :=
  decide (x.state = .active) && decide (x.recallAge ≠ 0) &&
    decide (x.recallAge * 1000 ≤ ms - max (x.dataTime.getD grantedAt) grantedAt)

/-- RECALL_AGE_REACHED (R34). -/
def execRecallAgeReached (entry : Fin 32) (s : State) : Result :=
  match s.entry entry with
  | none => .next s
  | some x =>
    if s.fsm.loan = .lent ∧ x.recallReached s.ms s.fsm.grantedAt then .next s.raiseRecall else .next s

/-- RECALL_TIMEOUT (R35). -/
def execRecallTimeout (s : State) : Result :=
  match s.fsm.loan, s.fsm.recallDue with
  | .lent, some d =>
    if d ≤ s.ms then
      .next ((s.setFsm { s.fsm with overrun := true, recallDue := none }).raise .loanOverrun noSource s.loanSeconds)
    else .next s
  | _, _ => .next s

/-- DELIVERY_ANSWER_SEND: the answer is dropped when a character is being received or its 5 ms have run (R33). It
waits while the part drives the line or the line has not been idle 3 character times (R1, log 19); else it begins. -/
def execDeliveryAnswerSend (s : State) : Result :=
  match s.fsm.loan, s.fsm.answer with
  | .lent, some a =>
    if s.fsm.receiving.isSome ∨ a.endedAt + Config.answerUs < s.clock then
      .next (s.setFsm { s.fsm with answer := none })
    else if s.driving ∨ s.clock < s.fsm.freeAt then .next s
    else
      let until' := s.clock + a.frame.length * Config.segmentCharUs
      .next (s.setFsm { s.fsm with answer := none, lineOut := some a.frame, drivingUntil := until',
                                   freeAt := until' + Config.segmentIdleUs })
  | _, _ => .next s

end Sys2Proof.Machine
end

