-- ==== Sys2Proof/Machine/Meter.lean ====
section
/-! DEFINITION. The meter channel and prover commands (chapter 3). -/

namespace Sys2Proof.Machine

/-! ### Inputs (R39) -/

/-- A raw level seen at a sample: timing starts, goes on or is abandoned (R39). -/
def Input.see (x : Input) (high : Bool) (clock : Nat) : Input :=
  if high = x.level then { x with raw := high, since := none }
  else { x with raw := high, since := some (x.since.getD clock) }

/-- The raw input has been seen at the new level for the filter time (R39). -/
def Input.ready (x : Input) (filter clock : Nat) : Bool :=
  match x.since with
  | none => false
  | some t => decide (t + filter ≤ clock)

/-- A timing going on when the filter time is rewritten from `old` to `new` (R38): a level already seen for the new
time is due at this sample, whenever it was first seen, so timings that the write brings due at one sample stand as
begun at one (R39, log 23). -/
def Input.refilter (x : Input) (old new clock : Nat) : Input :=
  { x with since := x.since.map (fun t => if t + old < clock then t else max t (clock - new)) }

/-- The filtered level takes the new level (R39). -/
def Input.settle (x : Input) : Input := { x with level := !x.level, since := none }

def Channel.input (x : Channel) : MeterInput → Input
  | .a => x.inputA
  | .b => x.inputB

/-- The other input of the pair. -/
def otherInput : MeterInput → MeterInput
  | .a => .b
  | .b => .a

def Channel.setInput (x : Channel) (i : MeterInput) (y : Input) : Channel :=
  match i with
  | .a => { x with inputA := y }
  | .b => { x with inputB := y }

/-- An edge of this input is taken now (R39). -/
def Channel.edge (x : Channel) (i : MeterInput) (clock : Nat) : Bool := (x.input i).ready x.config.glitch clock

/-- Edges of A and B are at one sample: both filtered levels change now, after one filter time (R39). -/
def Channel.together (x : Channel) (clock : Nat) : Bool :=
  x.edge .a clock && x.edge .b clock && decide (x.inputA.since = x.inputB.since)

/-- METER_RAW_INPUT_CHANGE (R39). -/
def execMeterRawInputChange (channel : Fin 8) (input : MeterInput) (high : Bool) (s : State) : Result :=
  let x := s.channel channel
  .next (s.setChannel channel (x.setInput input ((x.input input).see high s.clock)))

/-! ### Decoding (R40, R41) -/

/-- The edge of this input alone is a count in the mode (R40, R41). -/
def countsEdge (mode : DecodeMode) (i : MeterInput) (rising : Bool) : Bool :=
  match mode, i with
  | .single, .a => rising
  | .single, .b => false
  | .double, .a => true
  | .double, .b => false
  | .quad, _ => true

/-- Edges of A and B at one sample make a phase error in the mode (R40, R41). -/
def DecodeMode.pairs : DecodeMode → Bool
  | .single => false
  | _ => true

/-- Direction of a count before the invert flag: forward is true (R40, R41). -/
def edgeForward (mode : DecodeMode) (i : MeterInput) (rising other : Bool) : Bool :=
  match mode, i with
  | .single, _ => true
  | _, .a => rising != other
  | _, .b => rising == other

/-- Direction of a count: forward is true (R40, R41). -/
def Channel.forward (x : Channel) (i : MeterInput) : Bool :=
  edgeForward x.config.mode i (!(x.input i).level) (x.input (otherInput i)).level != x.config.invert

/-- A count joins the channel count, the totaliser and the window count (R42). -/
def Channel.count' (x : Channel) (forward : Bool) : Channel :=
  if forward then { x with count := x.count + 1, totaliser := x.totaliser + 1, window := x.window + 1 }
  else { x with count := x.count - 1, totaliser := x.totaliser - 1, window := x.window - 1 }

/-! ### Creep (R48) -/

/-- The creep accumulator after a count (R48). -/
def creepAfter (creep : Nat) (forward : Bool) : Nat := if forward then creep + 1 else creep - 1

/-- A count that goes to the creep accumulator (R48). -/
def State.creepCount (s : State) (c : Fin 8) (forward : Bool) : State :=
  let x := s.channel c
  let creep := creepAfter x.creep forward
  if forward && s.commissioned && decide (x.config.creepLimit ≠ 0) && decide (x.config.creepLimit ≤ creep) then
    (s.setChannel c { x with creep := 0 }).eventCause (.unauthorisedFlow c) .bayStop
  else s.setChannel c { x with creep := creep }

/-- A count handed on: to the point's open context, else to the creep accumulator (R42). -/
def State.handCount (s : State) (c : Fin 8) (forward : Bool) : State :=
  match (s.point c).context with
  | some _ => s.contextCount c
  | none => s.creepCount c forward

/-- METER_COUNT (R40 to R42). -/
def execMeterCount (channel : Fin 8) (input : MeterInput) (s : State) : Result :=
  let x := s.channel channel
  if x.edge input s.clock && countsEdge x.config.mode input (!(x.input input).level) &&
      !(x.config.mode.pairs && x.together s.clock) then
    let forward := x.forward input
    .next ((s.setChannel channel ((x.setInput input (x.input input).settle).count' forward)).handCount channel forward)
  else .next s

/-- FILTERED_LEVEL_CHANGE: an edge that makes no count (R40). -/
def execFilteredLevelChange (channel : Fin 8) (input : MeterInput) (s : State) : Result :=
  let x := s.channel channel
  if x.edge input s.clock && !countsEdge x.config.mode input (!(x.input input).level) &&
      !(x.config.mode.pairs && x.together s.clock) then
    .next (s.setChannel channel (x.setInput input (x.input input).settle))
  else .next s

/-- METER_PHASE_ERROR (R40, R41, R44, R90). -/
def execMeterPhaseError (channel : Fin 8) (s : State) : Result :=
  let x := s.channel channel
  if x.config.mode.pairs && x.together s.clock then
    .next ((s.setChannel channel
      { x with inputA := x.inputA.settle, inputB := x.inputB.settle,
               phaseErrors := inc16 x.phaseErrors }).contextPhaseError channel)
  else .next s

/-! ### Rate windows (R45 to R47, R89) -/

/-- The channel after its window closes (R45 to R47). -/
def Channel.closeWindow (x : Channel) : Channel :=
  { x with window := 0, lastWindow := x.window, flow := flowOf x.window x.config.k,
           reverse := decide (x.window < 0), windowDue := x.windowDue + Config.rateWindowMs }

/-- The overspeed run after a window (R89). -/
def overspeedAfter (run maxFlow : Nat) (flow : Option Nat) : Nat :=
  if maxFlow ≠ 0 ∧ maxFlow < flow.getD 0 then min (run + 1) 2 else 0

/-- The first of the three checks of a window close that holds (R89). -/
def State.windowEnd (s : State) (c : Context) : Option EndCause :=
  if 2 ≤ c.overspeed then some .overspeed
  else if s.mgt.params.noFlowTime * 1000 ≤ s.ms - c.lastCount then some .noFlow
  else if Config.phaseErrorLimit ≤ c.phaseErrors then some .meterFault
  else none

/-- The overspeed run of the point's context follows the window (R89). -/
def State.noteSpeed (s : State) (p : Fin 8) (k : PointConfig) (flow : Option Nat) : State :=
  s.modContext p (fun c => { c with overspeed := overspeedAfter c.overspeed k.maxFlow flow })

/-- The posting of a window close: G and N are computed and ΔN is posted (R89). -/
def State.windowPost (s : State) (p : Fin 8) : State :=
  let s := s.takeFigures p
  match (s.point p).context with
  | none => s
  | some c => s.postNet p (s.figures p c).net

/-- The three checks of a window close (R89). -/
def State.windowChecks (s : State) (p : Fin 8) : State :=
  match (s.point p).context with
  | none => s
  | some c => match s.windowEnd c with | none => s | some cause => s.toStopping p cause

/-- A rate window close reported to the point (R89). -/
def State.pointWindow (s : State) (p : Fin 8) (flow : Option Nat) : State :=
  match (s.point p).config with
  | none => s
  | some k =>
    if (s.point p).state.flowing then ((s.windowPost p).noteSpeed p k flow).windowChecks p else s

/-- RATE_WINDOW_CLOSE (R45 to R47, R89). -/
def execRateWindowClose (channel : Fin 8) (s : State) : Result :=
  let x := s.channel channel
  if x.windowDue ≤ s.ms then
    let y := x.closeWindow
    let s := s.setChannel channel y
    let s := if y.reverse && !x.reverse then s.raise .reverseFlow channel.val (beBytesInt 4 y.lastWindow) else s
    (s.pointWindow channel y.flow).done
  else .next s

/-- CREEP_WINDOW_BOUNDARY (R49). -/
def execCreepWindowBoundary (s : State) : Result :=
  if s.mtc.creepDue ≤ s.ms then
    .next (each all8 State.clearCreep
      (s.setMtc { s.mtc with creepDue := s.mtc.creepDue + Config.creepWindowMs }))
  else .next s

/-! ### Prover (R51) -/

/-- A capture event with a channel armed (R51). -/
def State.captureCount (s : State) (c : Fin 8) : State :=
  match s.mtc.capture with
  | none =>
    let v := (s.channel c).count
    (s.setMtc { s.mtc with capture := some { channel := c, value := v, uptime := s.uptime, overrun := false } }).raise
      .proverCapture c.val (beBytes 4 v.toNat)
  | some r => s.setMtc { s.mtc with capture := some { r with overrun := true } }

/-- PROVER_EDGE: the filtered level rises; a capture when a channel is armed (R51). -/
def execProverEdge (s : State) : Result :=
  let x := s.mtc.prover
  if x.ready Config.proverFilterUs s.clock && !x.level then
    let s := s.setMtc { s.mtc with prover := x.settle }
    match s.mtc.armed with
    | none => .next s
    | some c => .next (s.captureCount c)
  else .next s

/-- PROVER_RAW_INPUT_CHANGE (R51). -/
def execProverRawInputChange (change : ProverChange) (s : State) : Result :=
  let x := s.mtc.prover
  match change with
  | .raw high => .next (s.setMtc { s.mtc with prover := x.see high s.clock })
  | .filteredFall =>
    if x.ready Config.proverFilterUs s.clock && x.level then .next (s.setMtc { s.mtc with prover := x.settle })
    else .next s

end Sys2Proof.Machine
end

