-- ==== Sys2Proof/Machine/Timers.lean ====
section
/-! DEFINITION. The timer commands, and the commands of the shutdown inputs, the link and the clock. -/

namespace Sys2Proof.Machine

/-! ### Points, pumps and runs -/

/-- AUTH_TIMER_EXPIRY (R91). -/
def execAuthTimerExpiry (point : Fin 8) (s : State) : Result :=
  match (s.point point).state, (s.point point).context with
  | .authorised, some c => if c.authDue ≤ s.clock then .next (s.toStopping point .authTimeout) else .next s
  | _, _ => .next s

/-- The settle has ended: 2 s with no count, or 5 s since the entry (R94). -/
def Context.settled (c : Context) (clock : Nat) : Bool :=
  decide (c.quietFrom + Config.settleQuietUs ≤ clock) || decide (c.stoppingAt + Config.settleCapUs ≤ clock)

/-- SETTLE_END (R94, R95). -/
def execSettleEnd (point : Fin 8) (s : State) : Result :=
  match (s.point point).state, (s.point point).context with
  | .stopping, some c => if c.settled s.clock then (s.complete point).done else .next s
  | _, _ => .next s

/-- PANEL_STATUS_TIMER (R96). -/
def execPanelStatusTimer (point : Fin 8) (s : State) : Result :=
  if (s.point point).state.flowing ∧ (s.point point).statusFrom + Config.panelStatusUs ≤ s.clock then
    .next (s.sendPanel point)
  else .next s

/-- PUMP_RUN_SECOND (R73). -/
def execPumpRunSecond (pump : Fin 4) (s : State) : Result :=
  let carry := s.pumpCarry pump
  if Config.usPerSecond ≤ carry then
    let x := s.pump pump
    .next (s.setPump pump
      { x with runTime := inc32 x.runTime, carried := carry - Config.usPerSecond, onSince := s.clock })
  else .next s

/-- SUSPEND_TIMER_EXPIRY (R106, R109). -/
def execSuspendTimerExpiry (slot : Fin 4) (s : State) : Result :=
  match s.slot slot with
  | none => .next s
  | some r =>
    match r.state, r.suspendDue with
    | .suspended, some d => if d ≤ s.ms then .next (s.abandonRun slot r .timeout) else .next s
    | _, _ => .next s

/-! ### Shutdown inputs -/

/-- SPILL_INPUT_CHANGE (R148). -/
def execSpillInputChange (input : Fin 8) (high : Bool) (s : State) : Result :=
  .next ((s.setSpill input { s.spill input with raw := high }).judgeSpill input)

/-- SPILL_DEBOUNCE_EXPIRY (R148). -/
def execSpillDebounceExpiry (input : Fin 8) (s : State) : Result :=
  let x := s.spill input
  match x.timing with
  | none => .next s
  | some t =>
    if x.enabled ∧ x.wet ∧ t + x.debounce * Config.usPerMs ≤ s.clock then .next (s.setSpillPresent input true)
    else .next s

/-- A loop seen at a level: timing of a change starts, goes on or is abandoned (R149). -/
def EstopLoop.see (x : EstopLoop) (isOpen : Bool) (clock : Nat) : EstopLoop :=
  if isOpen = x.present then { x with isOpen := isOpen, timing := none }
  else { x with isOpen := isOpen, timing := some (x.timing.getD clock) }

/-- ESTOP_LOOP_CHANGE (R149). -/
def execEstopLoopChange (loop : Fin 2) (isOpen : Bool) (s : State) : Result :=
  .next (s.setLoop loop ((s.loop loop).see isOpen s.clock))

/-- ESTOP_TIMER_EXPIRY (R149). -/
def execEstopTimerExpiry (loop : Fin 2) (s : State) : Result :=
  let x := s.loop loop
  match x.timing with
  | none => .next s
  | some t =>
    if t + Config.loopUs ≤ s.clock then
      .next ((s.setLoop loop { x with present := x.isOpen, timing := none }).conditionChange (.estop loop) .isolate
        x.present x.isOpen)
    else .next s

/-- HORN_PULSE_TOGGLE (R157). -/
def execHornPulseToggle (s : State) : Result :=
  if s.ssd.level = .bayStop ∧ s.ssd.silenced = false ∧ s.ssd.hornDue ≤ s.clock then
    .next (s.setSsd { s.ssd with hornOn := !s.ssd.hornOn, hornDue := s.ssd.hornDue + Config.hornUs })
  else .next s

/-! ### The link and the clock -/

/-- LINK_SILENCE_EXPIRY (R178). -/
def execLinkSilenceExpiry (s : State) : Result :=
  match s.mgt.silenceDue with
  | none => .next s
  | some d =>
    if s.mgt.online ∧ d ≤ s.ms then
      .next ((s.setMgt { s.mgt with online := false, silenceDue := none, offlineSince := s.ms }).raise .offline
        noSource (beBytes 4 s.mgt.params.linkSilence))
    else .next s

/-- WALL_CLOCK_TICK (R177). -/
def execWallClockTick (s : State) : Result :=
  if s.mgt.timeValid ∧ s.mgt.wallDue ≤ s.clock then
    .next (s.setMgt { s.mgt with wall := s.mgt.wall + 1, wallDue := s.mgt.wallDue + Config.usPerSecond })
  else .next s

end Sys2Proof.Machine
end

