-- ==== Sys2Proof/Machine/Resets.lean ====
section
/-! DEFINITION. The three resets (section 11.6 and the reset section of every chapter). -/

namespace Sys2Proof.Machine

/-! ### Power-on and line reset -/

/-- The channels after power-on or line reset: the totalisers as `keep` gives them, the filtered levels at the raw
levels (R54, R39). -/
def Mtc.reset (m : Mtc) (keep : Bool) : Mtc :=
  { Reset.mtc with
    channels := all8.foldl (fun v c =>
      let x := m.channels[c.val]
      upd v c (Reset.channel x.inputA.raw x.inputB.raw (if keep then x.totaliser else 0))) m.channels,
    prover := Reset.input m.prover.raw }

/-- An entry of the cause set made LATCHED by a reset, its level kept (R161). -/
def CauseEntry.latch (e : CauseEntry) : CauseEntry := { e with active := false }

/-- Every entry LATCHED (R161). -/
def Ssd.latched (x : Ssd) : Vector (Option CauseEntry) 39 :=
  allCauses.foldl (fun v k => upd v k.place ((x.causes[k.place.val]).map CauseEntry.latch)) x.causes

/-- The emergency-stop loops judged afresh (R149, R161). -/
def Ssd.freshLoops (x : Ssd) : Vector EstopLoop 2 :=
  all2.foldl (fun v l => upd v l (Reset.loop (x.loops[l.val]).isOpen)) x.loops

/-- The spill inputs at their defaults, the raw levels as they stand (R147). -/
def Ssd.defaultSpills (x : Ssd) : Vector Spill 8 :=
  all8.foldl (fun v i => upd v i (Reset.spill (x.spills[i.val]).raw)) x.spills

/-- SSD after power-on (R161). -/
def Ssd.powerOn (x : Ssd) : Ssd := { Reset.ssd with spills := x.defaultSpills, loops := x.freshLoops }

/-- SSD after line reset: the cause set and the bay level are kept (R161). -/
def Ssd.lineReset (x : Ssd) : Ssd := { x.powerOn with causes := x.latched, level := x.level }

/-- The part after power-on, the levels on its input lines as they stand (R180, R182). -/
def State.afterPowerOn (s : State) : State :=
  { State.reset with
    pending := s.pending, choices := s.choices, fsm := Reset.fsm s.fsm.lrq, mtc := s.mtc.reset false,
    ssd := s.ssd.powerOn }

/-- POWER_ON (R180). -/
def execPowerOn (s : State) : Result := .next s.afterPowerOn

/-- The reset cause record and RESET_DONE after a line reset; the record numbers go on, and numbers that were exhausted
stay so, though the reserved places are dropped (R162, R163, R171, R180). -/
def State.afterLineReset (s : State) : State :=
  let line := inc8 s.mgt.lineResets
  { State.reset with
    pending := s.pending, choices := s.choices, fsm := Reset.fsm s.fsm.lrq, mtc := s.mtc.reset true,
    ssd := s.ssd.lineReset,
    jev := { Reset.jev with
      nextNumber := s.jev.nextNumber, spent := s.jev.exhausted,
      queue := [Reset.resetDone 2 (BitVec.ofNat 8 line) (BitVec.ofNat 8 s.mgt.softResets)] },
    mgt := { Reset.mgt with resetKind := .line, lineResets := line, softResets := s.mgt.softResets } }

/-- LINE_RESET (R180). -/
def execLineReset (s : State) : Result := .next s.afterLineReset

/-! ### Soft reset (R179), block by block -/

/-- A run at a soft reset, after the open steps are recorded (R111). The suspend reason ends with SUSPENDED
(log 48). -/
def Run.softReset (r : Run) : Run :=
  match r.state with
  | .active | .suspended =>
    { r with state := .abandoned, suspendReason := none, suspendDue := none, abandonReason := some .reset }
  | _ => r

/-- The work that a soft reset ends: contexts in point order, then deliveries in tank order, then runs (R97, R146,
R111). -/
def State.endWork (s : State) : State :=
  let s := each all8 State.completeAtReset s.markResetEnds
  let s := s.endDeliveries .reset
  each all4 (fun s k => s.modRun k Run.softReset) s

/-- A poll list entry at a soft reset: ABSENT, its live fields reset as for a new address (R37). -/
def PollEntry.softReset (x : PollEntry) : PollEntry :=
  { x.rearm 0 with dataTime := none, reportedFresh := false }

/-- FSM at a soft reset (R37). An exchange in progress and a frame being received or sent are dropped, and the line
counts as idle at once, which the rules leave open (log 46). -/
def Fsm.softReset (m : Fsm) : Fsm :=
  { Reset.fsm m.lrq with
    entries := all32.foldl (fun v e => upd v e ((m.entries[e.val]).map PollEntry.softReset)) m.entries,
    unused := m.unused,
    counters := m.counters }

/-- A channel at a soft reset (R54). -/
def Channel.softReset (x : Channel) : Channel :=
  { Reset.channel x.inputA.raw x.inputB.raw x.totaliser with config := x.config, phaseErrors := x.phaseErrors }

/-- MTC at a soft reset (R54). -/
def Mtc.softReset (m : Mtc) : Mtc :=
  { Reset.mtc with
    channels := all8.foldl (fun v c => upd v c (m.channels[c.val]).softReset) m.channels,
    prover := Reset.input m.prover.raw }

/-- A spill input at a soft reset: its record kept, its condition judged afresh from the end of the reset (R161). Its
debounce begins at the end of the reset and is taken by SPILL_DEBOUNCE_EXPIRY, with a debounce of 0 too, so that a
CAUSE_RAISED it brings comes after RESET_DONE (the model's choice, log 63). -/
def Spill.softReset (x : Spill) : Spill :=
  { x with present := false, timing := if x.enabled ∧ x.wet then some 0 else none }

/-- A sump at a soft reset (R150). -/
def Sump.softReset (x : Sump) : Sump := { x with lastLevel := none, high := false, highHigh := false, stale := false }

/-- SSD at a soft reset (R161). -/
def Ssd.softReset (x : Ssd) : Ssd :=
  { x with
    spills := all8.foldl (fun v i => upd v i (x.spills[i.val]).softReset) x.spills, loops := x.freshLoops,
    sumps := all4.foldl (fun v k => upd v k (x.sumps[k.val]).softReset) x.sumps, causes := x.latched,
    silenced := false, hornOn := true, hornDue := Config.hornUs }

/-- JEV at a soft reset: the events raised before its end are discarded and set no flag (R171). -/
def Jev.softReset (j : Jev) (pendings : Vector Bool 8) : Jev :=
  { j with queue := [], pendings := pendings, lost := false }

/-- MGT at a soft reset of `duration` us (R177, R178, R180, R184). -/
def Mgt.afterSoft (m : Mgt) (clock duration : Nat) : Mgt :=
  { m with
    wallDue := m.wallDue - clock - duration, online := true,
    silenceDue := if m.params.linkSilence = 0 then none else some (m.params.linkSilence * 1000), offlineSince := 0,
    resetKind := .soft, softResets := inc8 m.softResets, assembly := none, softReset := none }

/-- SPT at a soft reset (R6 to R8, R17). -/
def Spt.softReset (x : Spt) : Spt := { Reset.spt with counters := x.counters }

/-- The refusal shown of every point is cleared (R97). -/
def State.clearRefusals (s : State) : State :=
  each all8 (fun s p => s.setPoint p { s.point p with refusal := none, statusFrom := 0 }) s

/-- Every gauge STALE, every applied temperature at its default, every tank evaluated; no event is kept (R146, R59). -/
def State.resetTanks (s : State) : State :=
  let s := s.resetTemps
  let s := each all8 (fun s t => s.modTank t (fun x => { x with gauge := .stale })) s
  let s := each all8 State.settleTank s
  s.setTks { s.tks with lockouts := [] }

/-- The soft reset taken at every block, up to its end (R179). -/
def State.softResetBlocks (s : State) (duration : Nat) : State :=
  let pendings := s.jev.pendings
  let s := s.endWork.resetTanks.clearRefusals
  let mgt := s.mgt.afterSoft s.clock duration
  (((((((s.setFsm s.fsm.softReset).setMtc s.mtc.softReset).setSsd s.ssd.softReset).setSpt s.spt.softReset).setJev
    (s.jev.softReset pendings)).setMgt mgt).setClock 0)

/-- The PANEL_STATUS frame of each commissioned point once the reset is done (R97). -/
def State.resetPanels (s : State) : State :=
  each all8 (fun s p => if (s.point p).state = .uncommissioned then s else s.sendPanel p) s

/-- RESET_DONE with the reset cause record (R180). -/
def State.raiseResetDone (s : State) : State :=
  s.raise .resetDone noSource [s.mgt.resetKind.code, BitVec.ofNat 8 s.mgt.lineResets, BitVec.ofNat 8 s.mgt.softResets]

/-- SUMP_STALE judged as the reset ends, and RESET_DONE among its CAUSE_RAISED events: before sump `place`, or after
the last (R152, R180, log 9). That the sumps 0 to 3 are judged in that order is the model's choice (log 10). -/
def State.resetEvents (s : State) (place : Fin 5) : State :=
  let s := each all4 (fun s k => (if place.val = k.val then s.raiseResetDone else s).judgeSumpStale k) s
  if place.val = 4 then s.raiseResetDone else s

/-- What follows the end of a soft reset: panels, events, and an LRQ still asserted (R97, R180, R37). That a LOAN_GRANTED
of that LRQ joins the queue after RESET_DONE is the model's choice (log 10). -/
def State.afterSoftReset (s : State) : State :=
  ((s.resetPanels.setChoices (s.choices + 1)).resetEvents (Config.resetDonePlace s.choices)).loanEval

/-- SOFT_RESET_TAKEN, once the response has left the site port (R179). -/
def execSoftResetTaken (duration : Nat) (s : State) : Result :=
  if s.mgt.softReset = some 0 then .next (s.softResetBlocks duration).afterSoftReset else .next s

end Sys2Proof.Machine
end

