-- ==== Sys2Proof/Machine/Reads.lean ====
section
/-! DEFINITION. What a READ of each table returns, field by field (R184, R185, logs 11 to 14). -/

namespace Sys2Proof.Machine

/-- One byte. -/
def byte (n : Nat) : Byte := BitVec.ofNat 8 n

/-- A record with nothing in it (log 11). -/
def zeros (n : Nat) : List Byte := List.replicate n 0

/-- A record as it stands: its fields, or what was written when its first flag was cleared (log 11). -/
def recordBytes {α : Type} (x : Option α) (kept : List Byte) (fields : α → List Byte) : List Byte :=
  match x with
  | none => kept
  | some a => fields a

/-- A defined product record (section 4.2). -/
def productBytes (x : Product) : List Byte :=
  [1, x.kind.code] ++ beBytes 2 x.beta ++ beBytesInt 2 x.defaultTemp ++ beBytes 3 x.minDispense ++
    beBytes 3 x.slowDown

/-- A tank's configuration (section 8.1). -/
def tankConfigBytes : Option TankConfig → List Byte
  | none => zeros 26
  | some c =>
    [1, byte c.product.val] ++ beBytes 4 c.capacity ++ beBytes 1 c.gauge ++ beBytes 3 c.highHigh ++
      beBytes 4 c.safeFill ++ beBytes 4 c.low ++ beBytes 4 c.lockout ++ beBytes 4 c.lossThreshold

/-- A tank record, with its available volume (R129). Section 8.1 makes no level or temperature but the water level
optional, so the three others carry no presence byte and are sent as 0 while they are absent (log 50). The observed volume
has a presence byte of its own, and STRAP_CLAMPED after it has none: it is sent as 0, clear, where R67 holds it absent (the
model's choice, log 64). The section gives the committed volume no range: 4 bytes carry its low 32 bits (log 49). -/
def tankBytes (x : Tank) : List Byte :=
  tankConfigBytes x.config ++ [x.gauge.code] ++ beBytes 4 (x.lastLevel.getD 0) ++ optBytes 4 x.lastWater ++
    beBytesInt 2 (x.lastTemp.getD 0) ++ beBytesInt 2 (x.applied.getD 0) ++ [x.source.code] ++
    flagByte x.clamped ++ optBytes 4 x.observed ++ flagByte x.strapClamped ++ optBytes 4 x.gaugedNet ++
    optBytesInt 5 x.book ++ beBytes 4 x.committed ++ optBytesInt 5 x.baseline ++ flagByte x.gainReported ++
    [x.state.code] ++ optBytes 2 x.delivery ++ beBytes 4 x.available

/-- A strapping point: 4 bytes of level, then 4 of volume (R184, log 12). -/
def strapPointBytes (p : StrapPoint) : List Byte := beBytes 4 p.level ++ beBytes 4 p.volume

/-- A part of a strapping table (R184). A tank with no table answers a point count of 0, and a part past the table's
last answers no data (log 47). -/
def strapPartBytes (strap : Option (List StrapPoint)) (part : Nat) : List Byte :=
  let ps := strap.getD []
  let here := (ps.drop (12 * (part - 1))).take 12
  (if part = 1 then beBytes 1 ps.length else []) ++ here.flatMap strapPointBytes

/-- The configuration of a point in service (section 5.1). -/
def pointConfigBytes (c : PointConfig) : List Byte :=
  [1, byte c.product.val, byte c.tank.val, byte c.pump.val] ++ beBytes 1 c.reader ++ beBytes 1 c.panel ++
    beBytes 4 c.maxFlow ++ beBytes 2 c.stopLead ++ beBytes 3 c.tolerance ++ flagByte c.slowOnly

/-- The flags of a context, a byte each (R185), in the order of section 12.6 (log 13). -/
def contextFlags (c : Context) : List Byte :=
  flagByte c.reverse ++ flagByte c.saturated ++ flagByte c.tempHeld ++ flagByte c.clamped ++ flagByte c.overrun

/-- The open context of a point, or absent (R72). -/
def State.contextBytes (s : State) (p : Fin 8) : List Byte :=
  match (s.point p).context with
  | none => 0 :: zeros 23
  | some c =>
    [1, c.source.code] ++ beBytes 4 c.tag ++ beBytes 4 c.limit ++ [c.governing.code] ++
      beBytes 4 (s.figures p c).net ++ beBytes 4 c.posted ++ contextFlags c

/-- A point record (R72). -/
def State.pointBytes (s : State) (p : Fin 8) : List Byte :=
  let x := s.point p
  recordBytes x.config x.idle pointConfigBytes ++ [x.state.code, refusalCode x.refusal] ++ beBytes 4 x.lastNet ++
    beBytes 4 x.lastLimit ++ [governingCode x.lastGoverning] ++ s.contextBytes p

/-- A pump record (R73). The output state is sent as a flag, 1 for on (log 57). -/
def pumpBytes (x : Pump) : List Byte :=
  flagByte x.fitted ++ flagByte x.on ++ beBytes 4 x.starts ++ beBytes 4 x.runTime

/-- A channel record (R53). The filtered levels of A and B are sent as flags, 1 for high (log 57). -/
def channelBytes (x : Channel) : List Byte :=
  [x.config.mode.code] ++ flagByte x.config.invert ++ beBytes 1 x.config.glitch ++ beBytes 3 x.config.k ++
    beBytes 3 x.config.creepLimit ++ beBytes 4 x.count.toNat ++ beBytes 8 x.totaliser.toNat ++
    beBytesInt 3 x.window ++ beBytesInt 3 x.lastWindow ++ optBytes 4 x.flow ++ beBytes 4 x.creep ++
    flagByte x.reverse ++ flagByte x.inputA.level ++ flagByte x.inputB.level ++ beBytes 2 x.phaseErrors

/-- A match segment. -/
def segmentRecord (x : Segment) : List Byte :=
  beBytes 1 x.offset ++ beBytes 1 x.mask.length ++ x.mask ++ x.value

/-- A valid classifier entry (section 1.6). -/
def classifierBytes (e : ClassifierEntry) : List Byte :=
  [1, e.direction.code] ++ beBytes 1 e.segments.length ++ e.segments.flatMap segmentRecord ++
    [roleCode e.role] ++ beBytes 1 e.roleBase ++ [e.disposition.code] ++ flagByte e.gated

/-- A poll list entry in use (section 2.1). -/
def pollBytes (x : PollEntry) : List Byte :=
  beBytes 1 x.station ++ [x.formats] ++ beBytes 2 x.interval ++ beBytes 2 x.staleness ++ beBytes 2 x.recallAge ++
    flagByte x.critical ++ [x.state.code] ++ optBytes 1 x.format ++ flagByte x.legacy ++
    optBytes 1 (x.caps.map BitVec.toNat) ++ optBytes 1 (x.stationType.map BitVec.toNat) ++
    beBytes 1 x.matchCount ++ beBytes 1 x.ackCount ++ beBytes 1 x.legacyCount ++ beBytes 1 x.missCount ++
    beBytes 6 x.dueTime ++ optBytes 6 x.dataTime

/-- The live fields of an UNUSED poll list entry: the state's code, every other field 0 or absent (section 2.1). -/
def unusedLiveBytes : List Byte := 1 :: zeros 24

/-- A poll list entry: an UNUSED one holds the configuration fields that it was written with (R18). -/
def State.entryBytes (s : State) (e : Fin 32) : List Byte :=
  recordBytes (s.entry e) (s.fsm.unused[e.val] ++ unusedLiveBytes) pollBytes

/-- A class record (section 7.1). -/
def classBytes (c : ClassRecord) : List Byte :=
  beBytes 4 c.maxFill ++ beBytes 4 c.offlineCap ++ beBytes 2 c.tolerance ++ beBytes 2 c.minSpan ++
    beBytes 2 c.bandMin ++ beBytes 2 c.bandMax

/-- An allowance entry (section 7.2); of a committed amount above 32 bits the low 32 are sent (log 49). -/
def allowanceBytes (e : Allowance) : List Byte :=
  [byte e.product.val] ++ optBytes 4 e.allowance ++ beBytes 4 e.used ++ beBytes 4 e.committed

/-- Part 1 of an account (R184). -/
def accountHeadBytes (a : Account) : List Byte :=
  beBytes 4 a.tag ++ [byte a.cls.val, if a.suspended then 2 else 1] ++ flagByte a.hoursRequired ++
    flagByte a.serviceLock ++ beBytes 1 a.allowances.length ++ a.allowances.flatMap allowanceBytes ++
    beBytes 1 a.openCount

/-- An hour record (section 7.2). -/
def hourRecordBytes (h : HourRecord) : List Byte :=
  optBytes 3 h.lastAccepted ++ optBytes 4 (h.wallTime.map BitVec.toNat) ++ optBytes 3 h.anchor ++
    beBytes 4 h.fuel ++ optBytes 3 h.pending ++ optBytes 2 h.burnRate ++ beBytes 1 h.rejected

/-- A service record (section 7.2). -/
def serviceBytes (v : Service) : List Byte :=
  [byte v.product.val] ++ beBytes 3 v.interval ++ beBytes 4 v.minVolume ++ optBytes 3 v.hoursAtLast ++
    [v.state.code]

/-- Part 2 of an account (R184). -/
def accountTailBytes (a : Account) : List Byte :=
  hourRecordBytes a.hours ++ beBytes 1 a.services.length ++ a.services.flatMap serviceBytes

/-- A part of an account (R118, R184). -/
def accountPartBytes (a : Account) (part : Nat) : List Byte :=
  if part = 1 then accountHeadBytes a else accountTailBytes a

/-- A delivery order (section 8.5). -/
def orderBytes : Option Order → List Byte
  | none => zeros 45
  | some x =>
    beBytes 2 x.reference ++ beBytes 4 x.tanker ++ [byte x.tank.val, byte x.product.val] ++ beBytes 4 x.ordered ++
      [x.state.code] ++ beBytes 4 x.permitted ++ beBytes 4 x.gross ++ beBytes 4 x.net ++ beBytes 4 x.posted ++
      beBytesInt 2 x.lastTemp ++ beBytes 4 x.startTime ++ beBytes 4 x.endTime ++ [orderEndCode x.endCause] ++
      optBytes 4 x.record

/-- A spill input (R147). The raw level is sent as a flag, 1 for high (log 57). -/
def spillBytes (x : Spill) : List Byte :=
  flagByte x.enabled ++ [if x.activeLow then 2 else 1] ++ beBytes 2 x.debounce ++ [x.level.code] ++
    flagByte x.raw ++ flagByte x.timing.isSome ++ flagByte x.present

/-- A sump (R150). -/
def sumpBytes (x : Sump) : List Byte :=
  beBytes 1 x.config.station ++ beBytes 3 x.config.high ++ beBytes 3 x.config.highHigh ++ optBytes 4 x.lastLevel ++ flagByte x.high ++ flagByte x.highHigh ++ flagByte x.stale

/-- A step of a run (section 6.1). -/
def stepBytes (x : RunStep) : List Byte :=
  [byte x.point.val] ++ beBytes 4 x.target ++ flagByte x.pauseAfter ++ [x.result.code] ++ beBytes 4 x.delivered

/-- A run slot (R99). -/
def runBytes : Option Run → List Byte
  | none => [1] ++ zeros 6 ++ [2] ++ zeros 6
  | some r =>
    [r.state.code] ++ beBytes 1 r.runId ++ beBytes 2 r.account ++ beBytes 1 r.steps.length ++
      r.steps.flatMap stepBytes ++ beBytes 1 r.current ++ [suspendCode r.suspendReason] ++
      [if r.suspendDue.isSome then 1 else 2] ++ optBytes 3 r.startReading ++ beBytes 1 r.ignored ++
      [abandonCode r.abandonReason]

/-- The site port's counters, in the order of R17 (R170). -/
def siteCounterBytes (c : SiteCounters) : List Byte :=
  [c.received, c.checkErrors, c.lengthErrors, c.framingErrors, c.overruns, c.drops].flatMap (beBytes 2)

/-- The field port's counters, in the order of R17 (R170). -/
def fieldCounterBytes (c : FieldCounters) : List Byte :=
  [c.received, c.checkErrors, c.lengthErrors, c.framingErrors, c.overruns, c.unclassified, c.roleErrors,
    c.forwardDrops, c.unsolicited, c.pollMisses].flatMap (beBytes 2)

/-- The phase-error counters, in channel order (R170). -/
def State.phaseCounterBytes (s : State) : List Byte := all8.flatMap (fun c => beBytes 2 (s.channel c).phaseErrors)

/-- STATUS_READ's data (R181, section 12.4). The level of LRQ is sent as a flag, 1 for asserted (log 57), and the
places reserved take 2 bytes, as in JOURNAL_READ's layout (log 13). -/
def State.statusBytes (s : State) : List Byte :=
  [s.mgt.commission.code, if s.mgt.online then 1 else 2] ++ beBytes 2 s.mgt.params.linkSilence ++
    flagByte s.mgt.timeValid ++ beBytes 4 s.mgt.wall.toNat ++ beBytes 6 s.ms ++ [s.mgt.resetKind.code] ++
    beBytes 1 s.mgt.lineResets ++ beBytes 1 s.mgt.softResets ++ beBytes 2 s.jev.journal.length ++
    beBytes 2 s.jev.reserved ++ flagByte s.jev.fullReported ++ flagByte s.jev.lost ++ [s.fsm.loan.code] ++
    flagByte s.fsm.lrq ++ flagByte s.fsm.recalled ++ flagByte s.fsm.overrun ++ [s.ssd.level.code] ++
    flagByte s.ssd.silenced ++ allCauses.map (fun k => causeByte (s.cause k))

end Sys2Proof.Machine
end

