-- ==== Sys2Proof/Machine/Tables.lean ====
section
/-! DEFINITION. The requests that read and write tables (R12, R18, R38, R56, R66, R72, R73, R99, R112 to R115, R129,
R139, R147, R150, R174). -/

namespace Sys2Proof.Machine

/-! ### Poll list (R18, R25) -/

/-- The data time that a rewritten entry keeps when its address is the one held before (R18). -/
def PollEntry.keepData (n o : PollEntry) (ms : Nat) : PollEntry :=
  let n := { n with dataTime := o.dataTime }
  { n with reportedFresh := n.isFresh ms }

/-- Report a change between fresh and stale (R25). -/
def State.reportChange (s : State) (station : Nat) (before after : Bool) : State :=
  match before, after with
  | true, false => s.reportStale station
  | false, true => s.reportFresh station
  | _, _ => s

/-- A poll list entry replaced (R18): the data of an address no longer held is stale at once, and that is reported where
it was fresh (R25). -/
def State.writePoll (s : State) (e : Fin 32) (new : Option PollEntry) : State :=
  let old := s.entry e
  let s := s.setFsm (s.fsm.disown e)
  match old, new with
  | none, _ => s.setEntry e new
  | some o, none => (s.setEntry e none).reportChange o.station o.reportedFresh false
  | some o, some n =>
    if n.station = o.station then
      let n := n.keepData o s.ms
      (s.setEntry e (some n)).reportChange n.station o.reportedFresh n.reportedFresh
    else (s.setEntry e (some n)).reportChange o.station o.reportedFresh false

/-- Another entry in use holds the address (R18). -/
def State.stationTaken (s : State) (e : Fin 32) (station : Nat) : Bool :=
  all32.any (fun k => match s.entry k with | none => false | some x => decide (k ≠ e) && decide (x.station = station))

/-- Keep the configuration fields that an UNUSED entry was written with (R18). -/
def State.keepUnused (s : State) (e : Fin 32) (b : List Byte) : State :=
  s.setFsm { s.fsm with unused := upd s.fsm.unused e b }

/-- A poll list entry written (R18), and a held loan request judged afresh (R31). That a LOAN_GRANTED comes after the
events of the freshness report is the model's choice (log 10). -/
def pollWrite (e : Fin 32) (r : Request) (s : State) : Reply :=
  match parsePollEntry r.params s.ms with
  | none => s.no .badParam
  | some new =>
    if (new.map (fun n => s.stationTaken e n.station)).getD false then s.no .duplicate
    else ((s.keepUnused e (keptBytes new r.params)).writePoll e new).loanEval.ok []

/-- POLL_LIST_WRITE, and reads of the poll list (R18). -/
def execPollListWrite (s : State) : Result :=
  (s.serve [0x08] (table (exactly 0) (exactly 9) (indexed 32 (fun e _ s => s.ok (s.entryBytes e)))
    (indexed 32 pollWrite))).done

/-! ### Products (R56) -/

def productWrite (p : Fin 6) (r : Request) (s : State) : Reply :=
  match parseProduct r.params with
  | none => s.no .badParam
  | some new =>
    (each all8 State.refreshTemp (s.setVau
      { products := upd s.vau.products p new,
        undefined := upd s.vau.undefined p (keptBytes new r.params) })).ok []

/-- PRODUCT_WRITE, and reads of the product table (R56, R59). -/
def execProductWrite (s : State) : Result :=
  .next (s.serve [0x01] (structural (exactly 0) (exactly 12)
    (indexed 6 (fun p _ s => s.ok (recordBytes (s.product p) s.vau.undefined[p.val] productBytes))) (indexed 6 productWrite)))

/-! ### Tanks and strapping tables (R66, R129, R184) -/

/-- The figures computed against an old record no longer stand: STRAP_CLAMPED becomes clear (R129), not absent as R67 has
it (the model's choice, log 64). -/
def Tank.forget (x : Tank) : Tank := { x with observed := none, gaugedNet := none, strapClamped := false }

/-- A tank record replaced (R129). The gauge state is kept, also when the write takes a tank with a VALID gauge out of
service, of which R129 says too that its gauge stays STALE (the model's choice, log 58). -/
def tankWrite (t : Fin 8) (r : Request) (s : State) : Reply :=
  match parseTank r.params with
  | none => s.no .badParam
  | some c => ((s.modTank t (fun x => { x.forget with config := c })).refreshTemp t).ok []

/-- TANK_WRITE, and reads of the tank records (R129). -/
def execTankWrite (s : State) : Result :=
  .next (s.serve [0x02] (structural (exactly 0) (exactly 26)
    (indexed 8 (fun t _ s => s.ok (tankBytes (s.tank t)))) (indexed 8 tankWrite)))

/-- Parts of a strapping table of `c` points; more than 32 are refused at the last (R66, R184). A count
of 0, of which R184 makes no part, is judged with part 1 (the model's choice, log 17). -/
def strapParts (c : Nat) : Nat := min 3 (max 1 ((c + 11) / 12))

/-- Points that a part of a table of `c` points carries (R184). -/
def strapPartPoints (c part : Nat) : Nat := min (if part = 3 then 8 else 12) (c - 12 * (part - 1))

/-- Keep or drop the assembly (R184). -/
def State.setAssembly (s : State) (a : Option Assembly) : State := s.setMgt { s.mgt with assembly := a }

/-- The assembly that a later part continues: same object and index, and the next part expected (R184). -/
def State.continues (s : State) (object : PartedObject) (index part : Nat) : Option Assembly :=
  match s.mgt.assembly with
  | none => none
  | some a => if a.object = object ∧ a.index = index ∧ part = a.parts + 1 then some a else none

/-- A whole strapping table judged and applied (R66); LOCKED is the first of its checks (R173). -/
def strapApply (index : Nat) (bytes : List Byte) (s : State) : Reply :=
  if s.commissioned then s.no .locked
  else match toFin 8 index, parseStrapping bytes with
  | some t, some ps => (s.modTank t (fun x => { x.forget with strap := some ps })).ok []
  | _, _ => s.no .badParam

/-- A part that joins the assembly; the last one applies the table (R184). -/
def strapTake (r : Request) (part : Nat) (bytes : List Byte) (s : State) : Reply :=
  if strapParts (num bytes 0 1) ≤ part then strapApply r.index bytes (s.setAssembly none)
  else (s.setAssembly (some { object := .strapping, index := r.index, parts := part, bytes := bytes })).ok []

/-- Part 1 of a strapping write: it discards any assembly, and is LOCKED while COMMISSIONED (R184). -/
def strapFirst (r : Request) (s : State) : Reply :=
  let body := r.params.drop 1
  if body.length ≠ 1 + 8 * strapPartPoints (num body 0 1) 1 then s.no .badLength
  else if s.commissioned then (s.setAssembly none).no .locked
  else strapTake r 1 body s

/-- A later part of a strapping write (R184). While COMMISSIONED it is LOCKED only as the last part, which R66 judges
(log 17). -/
def strapLater (r : Request) (part : Nat) (s : State) : Reply :=
  let body := r.params.drop 1
  match s.continues .strapping r.index part with
  | none => (s.setAssembly none).no .state
  | some a =>
    if body.length ≠ 8 * strapPartPoints (num a.bytes 0 1) part then s.no .badLength
    else strapTake r part (a.bytes ++ body) s

def strapWrite (r : Request) (s : State) : Reply :=
  if num r.params 0 1 = 1 then strapFirst r s else strapLater r (num r.params 0 1) s

/-- A part of a strapping table (R66, R184). -/
def strapRead (t : Fin 8) (r : Request) (s : State) : Reply :=
  match within 1 3 (num r.params 0 1) with
  | none => s.no .badParam
  | some part => s.ok (strapPartBytes (s.tank t).strap part)

/-- Parameters that hold a part number. -/
def hasPart (params : List Byte) : Bool := !params.isEmpty

/-- STRAPPING_WRITE, and reads of the strapping tables (R66, R184). -/
def execStrappingWrite (s : State) : Result :=
  .next (s.serve [0x03] (table (exactly 1) hasPart (indexed 8 strapRead) strapWrite))

/-! ### Accounts (R113 to R115, R184) -/

/-- A run slot that is not EMPTY names the account slot (R115). -/
def State.runNames (s : State) (slot : Nat) : Bool := (s.findSlot (fun r => decide (r.account = slot))).isSome

/-- An open context of the account is for a product that the entries do not name (R115). -/
def State.dropsOpenProduct (s : State) (slot : Nat) (a : Account) : Bool :=
  all8.any (fun p =>
    match (s.point p).config, (s.point p).context with
    | some k, some c => decide (c.account = slot) && (a.entryFor k.product).isNone
    | _, _ => false)

/-- BUSY (R115). -/
def State.accountBusy (s : State) (slot : Nat) (old new : Account) : Bool :=
  ((decide (0 < old.openCount) || s.runNames slot) && decide (new.tag ≠ old.tag)) || s.dropsOpenProduct slot new

/-- The committed amount that an updated entry keeps (R113). -/
def Allowance.keep (old : Account) (e : Allowance) : Allowance :=
  { e with committed := ((old.entryFor e.product).map (·.committed)).getD 0 }

/-- An account updated by a write with its own tag: the derived and live fields are kept (R113). -/
def Account.keep (new old : Account) : Account :=
  { new with
    allowances := new.allowances.map (Allowance.keep old), openCount := old.openCount,
    hours := { new.hours with pending := old.hours.pending, rejected := old.hours.rejected } }

/-- A slot other than the one named holds the tag (R113). -/
def State.tagTaken (s : State) (slot tag : Nat) : Bool :=
  s.mac.accounts.any (fun e => decide (e.1 ≠ slot) && decide (e.2.tag = tag))

/-- A whole account judged and applied (R113). -/
def accountApply (slot : Nat) (bytes : List Byte) (s : State) : Reply :=
  match toFin 1024 slot, parseAccount bytes with
  | some _, some a =>
    if s.tagTaken slot a.tag then s.no .duplicate
    else
      match s.account slot with
      | none => (s.setAccount slot a).ok []
      | some old =>
        if s.accountBusy slot old a then s.no .busy
        else if a.tag = old.tag then (s.setAccount slot (a.keep old)).ok []
        else (s.setAccount slot a).ok []
  | _, _ => s.no .badParam

def accountsWrite (r : Request) (s : State) : Reply :=
  let body := r.params.drop 1
  match num r.params 0 1 with
  | 1 =>
    if body.length ≠ accountHeadLength body then s.no .badLength
    else (s.setAssembly (some { object := .accounts, index := r.index, parts := 1, bytes := body })).ok []
  | 2 =>
    if body.length ≠ accountTailLength body then s.no .badLength
    else
      match s.continues .accounts r.index 2 with
      | none => (s.setAssembly none).no .state
      | some a => accountApply r.index (a.bytes ++ body) (s.setAssembly none)
  | _ => (s.setAssembly none).no .state

/-- A part of an account (R118, R184). -/
def accountsRead (slot : Fin 1024) (r : Request) (s : State) : Reply :=
  match within 1 2 (num r.params 0 1) with
  | none => s.no .badParam
  | some part =>
    match s.account slot.val with
    | none => s.no .notFound
    | some a => s.ok (accountPartBytes a part)

/-- ACCOUNTS_WRITE, and reads of the accounts (R113, R118). -/
def execAccountsWrite (s : State) : Result :=
  .next (s.serve [0x0A] (table (exactly 1) hasPart (indexed 1024 accountsRead) accountsWrite))

/-! ### Delivery orders (R139) -/

/-- Another entry holds an order with the reference (R139). -/
def State.referenceTaken (s : State) (o : Fin 16) (reference : Nat) : Bool :=
  all16.any (fun k =>
    match s.order k with | none => false | some x => decide (k ≠ o) && decide (x.reference = reference))

/-- The entry holds an ACTIVE order (R139). -/
def State.orderActive (s : State) (o : Fin 16) : Bool :=
  match s.order o with
  | none => false
  | some x => decide (x.state = .active)

def orderWrite (o : Fin 16) (r : Request) (s : State) : Reply :=
  if r.params.isEmpty then
    if s.orderActive o then s.no .busy else (s.setOrder o none).ok []
  else
    match parseOrder r.params with
    | none => s.no .badParam
    | some x =>
      if s.orderActive o then s.no .busy
      else if s.referenceTaken o x.reference then s.no .duplicate
      else (s.setOrder o (some x)).ok []

/-- The empty form or an order of 12 bytes (R139, log 12). -/
def orderFits (params : List Byte) : Bool := params.isEmpty || exactly 12 params

/-- DELIVERY_ORDER_WRITE, and reads of the order table (R139). -/
def execDeliveryOrderWrite (s : State) : Result :=
  .next (s.serve [0x0B] (table (exactly 0) orderFits (indexed 16 (fun o _ s => s.ok (orderBytes (s.order o))))
    (indexed 16 orderWrite)))

/-! ### Spill inputs and sumps (R147, R150) -/

/-- A spill input re-judged at a write (R147). -/
def State.rejudgeSpill (s : State) (i : Fin 8) : State :=
  let x := s.spill i
  if x.enabled && x.wet then
    if x.debounce = 0 then s.setSpillPresent i true else s.setSpill i { x with timing := some s.clock }
  else s.setSpillPresent i false

def spillWrite (i : Fin 8) (r : Request) (s : State) : Reply :=
  match parseSpill r.params with
  | none => s.no .badParam
  | some w =>
    ((s.setSpill i { s.spill i with
      enabled := w.enabled, activeLow := w.activeLow, debounce := w.debounce, level := w.level }).rejudgeSpill i).ok []

/-- SPILL_INPUT_WRITE, and reads of the spill inputs (R147). -/
def execSpillInputWrite (s : State) : Result :=
  .next (s.serve [0x0C] (table (exactly 0) (exactly 5) (indexed 8 (fun i _ s => s.ok (spillBytes (s.spill i))))
    (indexed 8 spillWrite)))

/-- A sump's three fields replaced: the last level is kept while the sump is fitted and its station unchanged
(R150). -/
def Sump.write (x : Sump) (c : SumpConfig) : Sump :=
  { x with config := c,
           lastLevel := if c.station = x.config.station ∧ c.station ≠ 0 then x.lastLevel else none }

/-- A sump record replaced and its conditions judged (R150). That the changes of its levels reach the cause set first and
that of SUMP_STALE last is the model's choice (log 10). -/
def sumpWrite (k : Fin 4) (r : Request) (s : State) : Reply :=
  match parseSump r.params with
  | none => s.no .badParam
  | some c => (((s.setSump k ((s.sump k).write c)).judgeSumpLevels k).judgeSumpStale k).ok []

/-- SUMP_WRITE, and reads of the sumps (R150). -/
def execSumpWrite (s : State) : Result :=
  .next (s.serve [0x0D] (table (exactly 0) (exactly 7) (indexed 4 (fun k _ s => s.ok (sumpBytes (s.sump k))))
    (indexed 4 sumpWrite)))

/-! ### Bay parameters (R174) -/

/-- The parameters in the order of section 11.2. -/
inductive Param where
  | fieldDisposition
  | siteDisposition
  | loanEnable
  | loanLimit
  | recallTimeout
  | authTimeout
  | noFlowTime
  | linkSilence
deriving DecidableEq, Repr

/-- The parameter an index names, numbered 1 to 8 (section 12.4). -/
def paramAt (index : Nat) : Option Param :=
  match index with
  | 1 => some .fieldDisposition
  | 2 => some .siteDisposition
  | 3 => some .loanEnable
  | 4 => some .loanLimit
  | 5 => some .recallTimeout
  | 6 => some .authTimeout
  | 7 => some .noFlowTime
  | 8 => some .linkSilence
  | _ => none

/-- Width of a parameter's value (R185). -/
def Param.width : Param → Nat
  | .loanLimit => 2
  | .authTimeout => 2
  | .noFlowTime => 2
  | .linkSilence => 2
  | _ => 1

/-- Code of a default disposition: 1 PASS, 2 DROP (R183, log 13). -/
def dispositionCode (pass : Bool) : Nat := if pass then 1 else 2

/-- A parameter's value as a request carries it. -/
def Param.value (p : Param) (x : Params) : Nat :=
  match p with
  | .fieldDisposition => dispositionCode x.fieldPass
  | .siteDisposition => dispositionCode x.sitePass
  | .loanEnable => if x.loanEnable then 1 else 0
  | .loanLimit => x.loanLimit
  | .recallTimeout => x.recallTimeout
  | .authTimeout => x.authTimeout
  | .noFlowTime => x.noFlowTime
  | .linkSilence => x.linkSilence

/-- The parameters with one replaced; absent for a value outside its range (section 11.2). -/
def Param.set (p : Param) (x : Params) (v : Nat) : Option Params :=
  match p with
  | .fieldDisposition => (within 1 2 v).map (fun v => { x with fieldPass := decide (v = 1) })
  | .siteDisposition => (within 1 2 v).map (fun v => { x with sitePass := decide (v = 1) })
  | .loanEnable => (upTo 1 v).map (fun v => { x with loanEnable := decide (v = 1) })
  | .loanLimit => (upTo 3600 v).map (fun v => { x with loanLimit := v })
  | .recallTimeout => (within 1 60 v).map (fun v => { x with recallTimeout := v })
  | .authTimeout => (within 10 600 v).map (fun v => { x with authTimeout := v })
  | .noFlowTime => (within 10 600 v).map (fun v => { x with noFlowTime := v })
  | .linkSilence => if v = 0 then some { x with linkSilence := 0 } else (within 5 600 v).map (fun v => { x with linkSilence := v })

/-- What a new value does at once: a waiting loan request is judged, the link silence timer restarts (R31, R178). -/
def State.paramWritten (s : State) (p : Param) : State :=
  match p with
  | .loanEnable => s.loanEval
  | .linkSilence => s.restartSilence
  | _ => s

/-- A WRITE of a parameter answers the value it replaced (R174). An index that names no parameter calls for no length, so
it is NOT_FOUND whatever the length (the model's choice, log 62). -/
def paramWrite (r : Request) (s : State) : Reply :=
  match paramAt r.index with
  | none => s.no .notFound
  | some p =>
    if r.params.length ≠ p.width then s.no .badLength
    else
      match p.set s.mgt.params (beNat r.params) with
      | none => s.no .badParam
      | some x =>
        ((s.setMgt { s.mgt with params := x }).paramWritten p).ok (beBytes p.width (p.value s.mgt.params))

def paramRead (r : Request) (s : State) : Reply :=
  match paramAt r.index with
  | none => s.no .notFound
  | some p => s.ok (beBytes p.width (p.value s.mgt.params))

/-- BAY_PARAMETER_WRITE, and reads of the bay parameters (R174). The length of a write is judged against the
parameter its index names. -/
def execBayParameterWrite (s : State) : Result :=
  .next (s.serve [0x0E] (table (exactly 0) (fun _ => true) paramRead paramWrite))

/-! ### Runs (R99) -/

/-- The run's step cancelled by an abandon is still open at a point (R99, R100). -/
def State.stillOpen (s : State) (r : Run) : Bool := decide (r.state = .abandoned) && (s.runPoint r.runId).isSome

def runsWrite (k : Fin 4) (r : Request) (s : State) : Reply :=
  if r.params.isEmpty then
    match s.slot k with
    | none => s.ok []
    | some x =>
      if x.state = .active ∨ x.state = .suspended ∨ s.stillOpen x then s.no .busy else (s.setSlot k none).ok []
  else s.no .badParam

/-- RUNS_WRITE, and reads of the runs (R99). A write of anything but the empty form is BAD_PARAM, so its length is
not judged. -/
def execRunsWrite (s : State) : Result :=
  .next (s.serve [0x0F] (table (exactly 0) (fun _ => true) (indexed 4 (fun k _ s => s.ok (runBytes (s.slot k))))
    (indexed 4 runsWrite)))

/-! ### Points, pumps, channels, classifier, classes (R12, R38, R72, R73, R112) -/

def pointWrite (p : Fin 8) (r : Request) (s : State) : Reply :=
  match parsePoint r.params with
  | none => s.no .badParam
  | some c => (s.setPoint p { s.point p with config := c, idle := keptBytes c r.params }).ok []

def pumpWrite (k : Fin 4) (r : Request) (s : State) : Reply :=
  match flagAt r.params 0 with
  | none => s.no .badParam
  | some f => (s.setPump k { s.pump k with fitted := f }).ok []

/-- A channel's configuration replaced: the timings going on take the new filter time (R38), and with K unset the
flow rate is absent at once (R46). -/
def Channel.write (x : Channel) (c : ChannelConfig) (clock : Nat) : Channel :=
  { x with config := c, inputA := x.inputA.refilter x.config.glitch c.glitch clock,
           inputB := x.inputB.refilter x.config.glitch c.glitch clock, flow := if c.k = 0 then none else x.flow }

def channelWrite (c : Fin 8) (r : Request) (s : State) : Reply :=
  match parseChannel r.params with
  | none => s.no .badParam
  | some x => (s.setChannel c ((s.channel c).write x s.clock)).ok []

def classifierWrite (e : Fin 32) (r : Request) (s : State) : Reply :=
  match parseClassifier r.params with
  | none => s.no .badParam
  | some x => (s.setFcl
      { table := upd s.fcl.table e x, invalid := upd s.fcl.invalid e (keptBytes x r.params) }).ok []

def classWrite (c : Fin 16) (r : Request) (s : State) : Reply :=
  match parseClass r.params with
  | none => s.no .badParam
  | some x => (s.setMac { s.mac with classes := upd s.mac.classes c x }).ok []

/-- A classifier entry's length is judged against the counts it declares (R173). -/
def classifierFits (params : List Byte) : Bool := decide (params.length = classifierLength params)

/-- The table that TABLE_WRITE's object number names. -/
def tableRule (r : Request) : State → Reply :=
  match r.object with
  | 0x04 =>
    structural (exactly 0) (exactly 16) (indexed 8 (fun p _ s => s.ok (s.pointBytes p))) (indexed 8 pointWrite) r
  | 0x05 =>
    structural (exactly 0) (exactly 1) (indexed 4 (fun k _ s => s.ok (pumpBytes (s.pump k)))) (indexed 4 pumpWrite) r
  | 0x06 =>
    structural (exactly 0) (exactly 9) (indexed 8 (fun c _ s => s.ok (channelBytes (s.channel c))))
      (indexed 8 channelWrite) r
  | 0x07 =>
    table (exactly 0) classifierFits
      (indexed 32 (fun e _ s => s.ok (recordBytes s.fcl.table[e.val] s.fcl.invalid[e.val] classifierBytes)))
      (indexed 32 classifierWrite) r
  | _ =>
    table (exactly 0) (exactly 16) (indexed 16 (fun c _ s => s.ok (classBytes (s.cls c)))) (indexed 16 classWrite) r

/-- TABLE_WRITE, and reads of the classifier, channels, points, pumps and classes. -/
def execTableWrite (s : State) : Result :=
  .next (s.serve [0x04, 0x05, 0x06, 0x07, 0x09] (fun r s => tableRule r s))

end Sys2Proof.Machine
end

