-- ==== Sys2Proof/Machine/Actions.lean ====
section
/-! DEFINITION. The action requests on the bay, its points, tanks, accounts and shutdown (chapters 3, 5, 7, 8, 9, 11). -/

namespace Sys2Proof.Machine

/-! ### COMMISSION (R67, R72, R130, R175) -/

/-- A check of COMMISSION that failed (R175). -/
structure CheckFault where
  object : Byte
  index : Nat
  code : CheckCode
  /-- the first strapping point that breaks the order, for STRAP_LEVELS and STRAP_VOLUMES -/
  strapPoint : Option Nat
deriving DecidableEq, Repr

/-- The data of a refused COMMISSION (R175). -/
def CheckFault.bytes (x : CheckFault) : List Byte :=
  [x.object, byte x.index, x.code.code] ++ (match x.strapPoint with | none => [] | some i => [byte i])

/-- The first of a list of checks that fails. -/
def firstFault {α : Type} (f : α → Option CheckFault) : List α → Option CheckFault
  | [] => none
  | x :: rest => match f x with | some e => some e | none => firstFault f rest

/-- Check 1 (R56). -/
def State.checkProducts (s : State) : Option CheckFault :=
  if all6.any (fun p => (s.product p).isSome) then none
  else some { object := 0x01, index := 0, code := .noProduct, strapPoint := none }

/-- Check 2 (R38). -/
def State.checkChannel (s : State) (c : Fin 8) : Option CheckFault :=
  if (s.channel c).config.k = 0 then some { object := 0x06, index := c.val, code := .channelK, strapPoint := none }
  else none

/-- A failing tank check. -/
def tankFault (t : Fin 8) (code : CheckCode) (i : Option Nat) : Option CheckFault :=
  some { object := 0x02, index := t.val, code := code, strapPoint := i }

/-- The limits of a tank against its well-formed table (R130, 3 to 6). -/
def checkLimits (t : Fin 8) (c : TankConfig) (ps : List StrapPoint) : Option CheckFault :=
  if c.low ≤ c.lockout ∨ c.capacity ≤ c.low then tankFault t .tankLimits none
  else if c.highHigh ≤ firstLevel ps ∨ lastLevelOf ps < c.highHigh then tankFault t .tankHighHigh none
  else if c.safeFill = 0 ∨ lastVolumeOf ps < c.safeFill then tankFault t .tankSafeFill none
  else if c.gauge = 0 then tankFault t .tankGauge none
  else none

/-- Check 3, a tank in service by the codes of R130. -/
def State.checkTank (s : State) (t : Fin 8) : Option CheckFault :=
  match (s.tank t).config with
  | none => none
  | some c =>
    if (s.product c.product).isNone then tankFault t .tankProduct none
    else
      match (s.tank t).strap with
      | none => tankFault t .strapAbsent none
      | some ps =>
        match firstLevelFault 0 ps, firstVolumeFault 0 ps with
        | some i, _ => tankFault t .strapLevels (some i)
        | none, some i => tankFault t .strapVolumes (some i)
        | none, none => checkLimits t c ps

/-- A failing point check. -/
def pointFault (p : Fin 8) (code : CheckCode) : Option CheckFault :=
  some { object := 0x04, index := p.val, code := code, strapPoint := none }

/-- Check 4, a point in service by the codes of R72. -/
def State.checkPoint (s : State) (p : Fin 8) : Option CheckFault :=
  match (s.point p).config with
  | none => none
  | some k =>
    if (s.product k.product).isNone then pointFault p .pointProduct
    else if (s.tank k.tank).config.map (·.product) ≠ some k.product then pointFault p .pointTank
    else if (s.pump k.pump).fitted then none
    else pointFault p .pointPump

/-- The first check that fails, in the order of R175. -/
def State.commissionFault (s : State) : Option CheckFault :=
  match s.checkProducts with
  | some e => some e
  | none =>
    match firstFault s.checkChannel all8 with
    | some e => some e
    | none =>
      match firstFault s.checkTank all8 with
      | some e => some e
      | none => firstFault s.checkPoint all8

/-- A tank in service initialised at COMMISSION (R130). -/
def Tank.commission (x : Tank) : Tank :=
  match x.gauge, x.gaugedNet with
  | .valid, some g => { x with committed := 0, gainReported := false, book := some (g : Int), baseline := some 0 }
  | _, _ => { x with committed := 0, gainReported := false, book := none, baseline := none }

/-- Every tank initialised and evaluated, raising nothing (R130). -/
def State.commissionTank (s : State) (t : Fin 8) : State :=
  if (s.tank t).config.isSome then (s.modTank t Tank.commission).settleTank t else s

/-- A point in service enters IDLE (R74). -/
def State.commissionPoint (s : State) (p : Fin 8) : State :=
  if (s.point p).config.isSome then s.enterState p .idle else s

/-- The part becomes COMMISSIONED (R175): the points enter IDLE in the order 0 to 7, and so do their frames join the
forward queue (R74, log 10), then the tanks, and then the sumps 0 to 3 judge SUMP_STALE (log 10). -/
def State.commissionBay (s : State) : State :=
  let s := s.setMgt { s.mgt with commission := .commissioned }
  each all4 State.judgeSumpStale (each all8 State.commissionTank (each all8 State.commissionPoint s))

def commission (_ : Request) (s : State) : Reply :=
  if s.commissioned then s.no .state
  else
    match s.commissionFault with
    | some e => { state := s, status := .state, data := e.bytes }
    | none => s.commissionBay.ok []

/-- COMMISSION (R175). -/
def execCommission (s : State) : Result := .next (s.serve [0x20] (action (exactly 0) commission))

/-! ### DECOMMISSION (R176) -/

/-- Work is open: a context, a delivery, or a run ACTIVE or SUSPENDED (R176). -/
def State.workOpen (s : State) : Bool :=
  all8.any (fun p => (s.point p).context.isSome) || all8.any (fun t => (s.tank t).delivery.isSome) ||
    (s.findSlot (fun r => decide (r.state = .active) || decide (r.state = .suspended))).isSome

/-- A tank at DECOMMISSION (R130). -/
def Tank.decommission (x : Tank) : Tank :=
  { x with book := none, baseline := none, committed := 0, gainReported := false, state := .unset }

/-- A point enters UNCOMMISSIONED (R74). -/
def State.decommissionPoint (s : State) (p : Fin 8) : State :=
  if (s.point p).state = .uncommissioned then s else s.enterState p .uncommissioned

/-- The part becomes UNCOMMISSIONED (R176), the points and their frames in the order 0 to 7 (R74, log 10),
and the sumps 0 to 3 last (log 10). -/
def State.decommissionBay (s : State) : State :=
  let s := s.setMgt { s.mgt with commission := .uncommissioned }
  each all4 State.judgeSumpStale
    (each all8 (fun s t => s.modTank t Tank.decommission) (each all8 State.decommissionPoint s))

def decommission (_ : Request) (s : State) : Reply :=
  if s.commissioned then if s.workOpen then s.no .busy else s.decommissionBay.ok [] else s.no .state

/-- DECOMMISSION (R176). -/
def execDecommission (s : State) : Result := .next (s.serve [0x21] (action (exactly 0) decommission))

/-! ### Clock, shift and stock (R117, R134, R137, R177) -/

/-- The wall time, or "unset" (R177, log 13). -/
def State.wallBytes (s : State) : List Byte :=
  optBytes 4 (if s.mgt.timeValid then some s.mgt.wall.toNat else none)

def timeSet (r : Request) (s : State) : Reply :=
  (s.setMgt { s.mgt with
    wall := BitVec.ofNat 32 (beNat r.params), timeValid := true,
    wallDue := (s.clock : Int) + Config.usPerSecond }).ok s.wallBytes

/-- TIME_SET (R177). -/
def execTimeSet (s : State) : Result := .next (s.serve [0x22] (action (exactly 4) timeSet))

/-- An account at the close of a shift (R117). -/
def Account.closeShift (a : Account) : Account :=
  { a with allowances := a.allowances.map (fun e => { e with used := 0 }) }

def shiftClose (_ : Request) (s : State) : Reply :=
  (s.setMac { s.mac with accounts := s.mac.accounts.map (fun e => (e.1, e.2.closeShift)) }).ok
    (beBytes 2 s.mac.accounts.length)

/-- SHIFT_CLOSE (R117). -/
def execShiftClose (s : State) : Result := .next (s.serve [0x23] (action (exactly 0) shiftClose))

/-- The tank's capacity, 0 out of service (section 8.1). -/
def Tank.capacity (x : Tank) : Nat := (x.config.map (·.capacity)).getD 0

def stockSet (t : Fin 8) (r : Request) (s : State) : Reply :=
  let v := beInt r.params
  if ((s.tank t).capacity : Int) < v ∨ v < -4294967296 then s.no .badParam
  else if s.commissioned && (s.tank t).config.isSome then
    ((s.modTank t (fun x => { x with book := some v })).evalTank t).ok (optBytesInt 5 (s.tank t).book)
  else s.no .state

/-- STOCK_SET (R134). -/
def execStockSet (s : State) : Result := (s.serve [0x24] (action (exactly 5) (indexed 8 stockSet))).done

/-- Book less gauged net, when the tank can be reconciled (R137). With the gauge VALID and the gauged net absent,
for which R137 names no outcome, it cannot be (log 51). -/
def State.standing (s : State) (t : Fin 8) : Option Int :=
  match s.commissioned, (s.tank t).config, (s.tank t).gauge, (s.tank t).book, (s.tank t).gaugedNet with
  | true, some _, .valid, some b, some g => some (b - g)
  | _, _, _, _, _ => none

def reconcile (t : Fin 8) (_ : Request) (s : State) : Reply :=
  match s.standing t with
  | none => s.no .state
  | some d =>
    let old := (s.tank t).baseline
    (s.modTank t (fun x => { x with baseline := some d, gainReported := false })).ok
      (optBytesInt 5 old ++ beBytesInt 5 d ++ beBytesInt 5 ((old.map (fun b => d - b)).getD 0))

/-- RECONCILE (R137). -/
def execReconcile (s : State) : Result := .next (s.serve [0x25] (action (exactly 0) (indexed 8 reconcile)))

/-! ### Points (R74, R82, R92) -/

/-- An AUTHORISE's parameters: tag, optional preset, optional hour reading (R82). -/
def parseAuthorise (p : Fin 8) (b : List Byte) : Option AuthRequest :=
  match within 1 4294967295 (num b 0 4), optAt b 4 4, hourAt b 9 3 with
  | some tag, some preset, some hour =>
    if (preset.getD 0) ≤ Config.volumeBound then
      some { source := .site, point := p, tag := tag, account := 0, preset := preset, hour := hour, run := none,
             volume := none }
    else none
  | _, _, _ => none

def authoriseRule (p : Fin 8) (r : Request) (s : State) : Reply :=
  match parseAuthorise p r.params with
  | none => s.no .badParam
  | some q => (s.authorise q).1.ok (s.authorise q).2.bytes

/-- AUTHORISE (R82). -/
def execAuthorise (s : State) : Result := .next (s.serve [0x26] (action (exactly 13) (indexed 8 authoriseRule)))

def cancel (p : Fin 8) (_ : Request) (s : State) : Reply :=
  match (s.point p).state with
  | .uncommissioned | .disabled | .idle => s.no .state
  | _ => (s.toStopping p .siteCancel).ok []

/-- CANCEL (R92). -/
def execCancel (s : State) : Result := .next (s.serve [0x27] (action (exactly 0) (indexed 8 cancel)))

def pointEnable (p : Fin 8) (_ : Request) (s : State) : Reply :=
  match (s.point p).state with
  | .uncommissioned => s.no .state
  | .disabled => (s.enterState p .idle).ok []
  | _ => s.ok []

/-- POINT_ENABLE (R74). -/
def execPointEnable (s : State) : Result := .next (s.serve [0x28] (action (exactly 0) (indexed 8 pointEnable)))

def pointDisable (p : Fin 8) (_ : Request) (s : State) : Reply :=
  match (s.point p).state with
  | .uncommissioned => s.no .state
  | .idle => (s.enterState p .disabled).ok []
  | .disabled => s.ok []
  | _ => s.no .busy

/-- POINT_DISABLE (R74). -/
def execPointDisable (s : State) : Result := .next (s.serve [0x29] (action (exactly 0) (indexed 8 pointDisable)))

/-! ### Runs (R99 to R102, R107 to R109) -/

/-- The checks that every run request makes first (R99). -/
def runRule (rule : Fin 4 → Run → Request → State → Reply) : Request → State → Reply :=
  indexed 4 (fun k r s =>
    if num r.params 0 1 = 0 then s.no .badParam
    else
      match s.slot k with
      | none => s.no .notFound
      | some x => if x.runId = num r.params 0 1 then rule k x r s else s.no .notFound)

/-- Another slot whose run meets a condition. -/
def State.otherSlot (s : State) (k : Fin 4) (f : Run → Bool) : Bool :=
  all4.any (fun j => match s.slot j with | none => false | some x => decide (j ≠ k) && f x)

/-- A RUN_LOAD's parameters: run id, account slot, steps (R100). -/
def parseLoad (b : List Byte) : Option Run :=
  match within 1 255 (num b 0 1), upTo 1023 (num b 1 2), parseSteps b 3 8 with
  | some id, some account, some steps =>
    some { state := .loaded, runId := id, account := account, steps := steps, current := 0, suspendReason := none,
           suspendDue := none, startReading := none, ignored := 0, abandonReason := none }
  | _, _, _ => none

/-- Checks 2 to 5 of RUN_LOAD (R100). -/
def State.loadFault (s : State) (k : Fin 4) (x : Run) : Option Status :=
  let here := s.slot k
  if (here.map (·.state.live)).getD false then some .state
  else if (s.account x.account).isNone then some .notFound
  else if s.otherSlot k (fun y => y.state.live && decide (y.account = x.account)) ||
      (here.map s.stillOpen).getD false then some .busy
  else if s.otherSlot k (fun y => decide (y.runId = x.runId)) then some .duplicate
  else none

def runLoad (k : Fin 4) (r : Request) (s : State) : Reply :=
  match parseLoad r.params with
  | none => s.no .badParam
  | some x =>
    match s.loadFault k x with
    | some e => s.no e
    | none => (s.setSlot k (some x)).ok []

/-- The length that the step count at `off` gives (R173). -/
def stepsFit (off : Nat) (params : List Byte) : Bool := decide (params.length = off + 1 + 6 * num params off 1)

/-- RUN_LOAD (R100). -/
def execRunLoad (s : State) : Result := .next (s.serve [0x2A] (action (stepsFit 3) (indexed 4 runLoad)))

def runAppend (k : Fin 4) (x : Run) (r : Request) (s : State) : Reply :=
  match parseSteps r.params 1 7 with
  | none => s.no .badParam
  | some steps =>
    if x.state.ended then s.no .state
    else if 8 < x.steps.length + steps.length then s.no .full
    else (s.setSlot k (some { x with steps := x.steps ++ steps })).ok []

/-- RUN_APPEND (R101). -/
def execRunAppend (s : State) : Result := .next (s.serve [0x2B] (action (stepsFit 1) (runRule runAppend)))

def runClearPause (k : Fin 4) (x : Run) (r : Request) (s : State) : Reply :=
  match within 1 8 (num r.params 1 1) with
  | none => s.no .badParam
  | some i =>
    if x.steps.length < i then s.no .notFound
    else if x.state.ended ∨ i ≤ x.current then s.no .state
    else (s.setSlot k (some { x with steps := modStep i (fun y => { y with pauseAfter := false }) x.steps })).ok []

/-- RUN_CLEAR_PAUSE (R102). -/
def execRunClearPause (s : State) : Result := .next (s.serve [0x2C] (action (exactly 2) (runRule runClearPause)))

/-- The data of an outcome; a run that is DONE has none (R107, log 13). -/
def outcomeBytes : Option AuthOutcome → List Byte
  | none => []
  | some x => x.bytes

def runResume (k : Fin 4) (x : Run) (_ : Request) (s : State) : Reply :=
  match x.state with
  | .suspended => (s.resumeRun k x).1.ok (outcomeBytes (s.resumeRun k x).2)
  | .active => (s.setSlot k (some { x with ignored := inc8 x.ignored })).no .state
  | _ => s.no .state

/-- RUN_RESUME (R107). -/
def execRunResume (s : State) : Result := .next (s.serve [0x2D] (action (exactly 1) (runRule runResume)))

/-- The current step of a run that RUN_RETRY can offer again (R108). -/
def Run.retryStep (x : Run) : Option RunStep :=
  match x.state, x.suspendReason, x.step x.current with
  | .suspended, some .pause, _ => none
  | .suspended, _, some y => if y.delivered < y.target then some y else none
  | _, _, _ => none

def runRetry (k : Fin 4) (x : Run) (_ : Request) (s : State) : Reply :=
  match x.retryStep with
  | none => s.no .state
  | some y =>
    let out := s.offerStep k x y (y.target - y.delivered) none
    out.1.ok out.2.bytes

/-- RUN_RETRY (R108). -/
def execRunRetry (s : State) : Result := .next (s.serve [0x2E] (action (exactly 1) (runRule runRetry)))

def runAbandon (k : Fin 4) (x : Run) (_ : Request) (s : State) : Reply :=
  if x.state.live then (s.abandonRun k x .site).ok [] else s.no .state

/-- RUN_ABANDON (R109). -/
def execRunAbandon (s : State) : Result := .next (s.serve [0x2F] (action (exactly 1) (runRule runAbandon)))

/-! ### Journal, events and counters (R164, R165, R168 to R170) -/

def journalRead (r : Request) (s : State) : Reply :=
  match within 1 2 (beNat r.params) with
  | none => s.no .badParam
  | some n =>
    let out := s.jev.journal.take n
    s.ok (beBytes 2 s.jev.journal.length ++ beBytes 2 s.jev.reserved ++ beBytes 1 out.length ++
      out.flatMap Record.bytes)

/-- JOURNAL_READ (R164). -/
def execJournalRead (s : State) : Result := .next (s.serve [0x30] (action (exactly 1) journalRead))

/-- Remove the records numbered at or below `n` from the oldest end (R165). -/
def release (n : Nat) (l : List Record) : List Record := l.dropWhile (fun x => decide (x.number ≤ n))

/-- A release that makes room after JOURNAL_FULL was reported (R165). -/
def State.reportRoom (s : State) (removed : Nat) : State :=
  if 0 < removed ∧ s.jev.fullReported ∧ !s.jev.exhausted then
    (s.setJev { s.jev with fullReported := false }).raise .journalRoom noSource
      (beBytes 2 s.jev.journal.length ++ beBytes 2 s.jev.reserved)
  else s

def journalRelease (r : Request) (s : State) : Reply :=
  let left := release (beNat r.params) s.jev.journal
  let removed := s.jev.journal.length - left.length
  ((s.setJev { s.jev with journal := left }).reportRoom removed).ok (beBytes 2 removed)

/-- JOURNAL_RELEASE (R165). -/
def execJournalRelease (s : State) : Result := .next (s.serve [0x31] (action (exactly 4) journalRelease))

/-- The masks that eight flags give. -/
def maskVector (old : Vector Bool 8) (flags : List Bool) : Vector Bool 8 :=
  all8.foldl (fun v g => upd v g (flags.getD g.val false)) old

/-- GROUP_PENDING for a group unmasked with its pending flag set (R168); the source is the group's place, 1 to 8. -/
def State.groupPending (old : Vector Bool 8) (s : State) (g : Fin 8) : State :=
  if old[g.val] && !s.jev.masks[g.val] && s.jev.pendings[g.val] then s.raise .groupPending (g.val + 1) [] else s

def eventMask (r : Request) (s : State) : Reply :=
  match allOf ((List.range 8).map (flagAt r.params)) with
  | none => s.no .badParam
  | some flags =>
    let old := s.jev.masks
    (each all8 (State.groupPending old) (s.setJev { s.jev with masks := maskVector old flags })).ok
      (all8.flatMap (fun g => flagByte old[g.val]))

/-- EVENT_MASK (R168). -/
def execEventMask (s : State) : Result := .next (s.serve [0x32] (action (exactly 8) eventMask))

def eventPendingRead (_ : Request) (s : State) : Reply :=
  (s.setJev { s.jev with pendings := Vector.replicate 8 false, lost := false }).ok
    (all8.flatMap (fun g => flagByte s.jev.pendings[g.val]) ++ flagByte s.jev.lost)

/-- EVENT_PENDING_READ (R169). -/
def execEventPendingRead (s : State) : Result := .next (s.serve [0x33] (action (exactly 0) eventPendingRead))

/-- The eight phase-error counters cleared (R44). -/
def State.clearPhaseErrors (s : State) : State :=
  each all8 (fun s c => s.setChannel c { s.channel c with phaseErrors := 0 }) s

/-- A counter set is numbered 1 site port, 2 field port, 3 channels (R170, log 13). -/
def countersRead (r : Request) (s : State) : Reply :=
  match beNat r.params with
  | 1 => (s.countSite (fun _ => Reset.siteCounters)).ok (siteCounterBytes s.spt.counters)
  | 2 => (s.countField (fun _ => Reset.fieldCounters)).ok (fieldCounterBytes s.fsm.counters)
  | 3 => s.clearPhaseErrors.ok s.phaseCounterBytes
  | _ => s.no .badParam

/-- COUNTERS_READ (R170). -/
def execCountersRead (s : State) : Result := .next (s.serve [0x34] (action (exactly 1) countersRead))

/-! ### Shutdown (R154, R158, R159) -/

/-- The entry is LATCHED. -/
def isLatched : Option CauseEntry → Bool
  | some e => !e.active
  | none => false

/-- The entry is ACTIVE. -/
def isActiveEntry : Option CauseEntry → Bool
  | some e => e.active
  | none => false

/-- The cause set without its LATCHED entries (R159). -/
def clearLatched (v : Vector (Option CauseEntry) 39) : Vector (Option CauseEntry) 39 :=
  allCauses.foldl (fun w k => if isLatched v[k.place.val] then upd w k.place none else w) v

def shutdownClear (_ : Request) (s : State) : Reply :=
  let removed := allCauses.countP (fun k => isLatched (s.cause k))
  let left := allCauses.countP (fun k => isActiveEntry (s.cause k))
  let data := [byte removed, byte left]
  (((s.setSsd { s.ssd with causes := clearLatched s.ssd.causes }).raise .cleared noSource data).evalLevel).ok data

/-- SHUTDOWN_CLEAR (R159). -/
def execShutdownClear (s : State) : Result := .next (s.serve [0x35] (action (exactly 0) shutdownClear))

def siteStop (r : Request) (s : State) : Reply :=
  match levelAt r.params 0 with
  | none => s.no .badParam
  | some l => (s.eventCause .siteStop l).ok [(s.eventCause .siteStop l).ssd.level.code]

/-- SITE_STOP (R154). -/
def execSiteStop (s : State) : Result := .next (s.serve [0x36] (action (exactly 1) siteStop))

def hornSilence (_ : Request) (s : State) : Reply :=
  if s.ssd.level = .normal then s.no .state else (s.setSsd { s.ssd with silenced := true }).ok []

/-- HORN_SILENCE (R158). -/
def execHornSilence (s : State) : Result := .next (s.serve [0x37] (action (exactly 0) hornSilence))

/-! ### Prover (R50, R52) -/

/-- The channel that PROVER_ARM names: 0 to 7, or 0xFFFF for none (R50, section 12.4). -/
def armedAt (index : Nat) : Option (Option (Fin 8)) :=
  if index = 0xFFFF then some none else (toFin 8 index).map some

def proverArm (r : Request) (s : State) : Reply :=
  match armedAt r.index with
  | none => s.no .badParam
  | some c => (s.setMtc { s.mtc with armed := c }).ok []

/-- PROVER_ARM (R50). -/
def execProverArm (s : State) : Result := .next (s.serve [0x38] (action (exactly 0) proverArm))

/-- The capture record as PROVER_READ returns it (R52, log 13). -/
def captureBytes : Option Capture → List Byte
  | none => flagByte false ++ flagByte false
  | some r =>
    [byte r.channel.val] ++ beBytes 4 r.value.toNat ++ beBytes 6 r.uptime ++ flagByte true ++ flagByte r.overrun

def proverRead (_ : Request) (s : State) : Reply :=
  (s.setMtc { s.mtc with capture := none }).ok (captureBytes s.mtc.capture)

/-- PROVER_READ (R52). -/
def execProverRead (s : State) : Result := .next (s.serve [0x39] (action (exactly 0) proverRead))

/-! ### Stations, accounts, soft reset and status (R18, R118, R179, R181) -/

def stationRearm (r : Request) (s : State) : Reply :=
  match toFin 32 r.index with
  | none => s.no .notFound
  | some e =>
    match s.entry e with
    | none => s.no .notFound
    | some x => ((s.setFsm (s.fsm.disown e)).setEntry e (some (x.rearm s.ms))).loanEval.ok []

/-- STATION_REARM (R18). -/
def execStationRearm (s : State) : Result := .next (s.serve [0x3A] (action (exactly 0) stationRearm))

def accountFind (r : Request) (s : State) : Reply :=
  match within 1 2 (num r.params 0 1), within 1 4294967295 (num r.params 1 4) with
  | some part, some tag =>
    match findTag tag s.mac.accounts with
    | none => s.no .notFound
    | some (slot, a) => s.ok (beBytes 2 slot ++ accountPartBytes a part)
  | _, _ => s.no .badParam

/-- ACCOUNT_FIND (R118). -/
def execAccountFind (s : State) : Result := .next (s.serve [0x3B] (action (exactly 5) accountFind))

def accountRemove (slot : Fin 1024) (_ : Request) (s : State) : Reply :=
  match s.account slot.val with
  | none => s.no .notFound
  | some a =>
    if 0 < a.openCount ∨ s.runNames slot.val then s.no .busy
    else (s.setMac { s.mac with accounts := dropSlot slot.val s.mac.accounts }).ok []

/-- ACCOUNT_REMOVE (R118). -/
def execAccountRemove (s : State) : Result :=
  .next (s.serve [0x3C] (action (exactly 0) (indexed 1024 accountRemove)))

/-- The soft reset waits for the frames ahead of the response and the response itself (R179). -/
def softReset (_ : Request) (s : State) : Reply :=
  (s.setMgt { s.mgt with softReset := some (s.spt.tx.length + 1) }).ok []

/-- SOFT_RESET (R179). -/
def execSoftReset (s : State) : Result := .next (s.serve [0x3D] (action (exactly 0) softReset))

def statusRead (_ : Request) (s : State) : Reply := s.ok s.statusBytes

/-- STATUS_READ (R181). -/
def execStatusRead (s : State) : Result := .next (s.serve [0x3E] (action (exactly 0) statusRead))

end Sys2Proof.Machine
end

