-- ==== Sys2Proof/Machine/Dispatch.lean ====
section
/-! DEFINITION. The effect of each command: one arm per row of spec/opcode_table.json. -/

namespace Sys2Proof.Machine

/-- What a command does to everything but the queue of waiting commands. -/
def exec (i : Instr) (s : State) : Host.Outcome State Fault Refusal :=
  match i with
  | .siteFrameEnd chars framingError => Sys2Proof.Machine.execSiteFrameEnd chars framingError s
  | .siteFrameRouted => Sys2Proof.Machine.execSiteFrameRouted s
  | .fieldFrameEnd chars framingError => Sys2Proof.Machine.execFieldFrameEnd chars framingError s
  | .fieldFrameTaken => Sys2Proof.Machine.execFieldFrameTaken s
  | .siteFrameSent => Sys2Proof.Machine.execSiteFrameSent s
  | .eventMoved => Sys2Proof.Machine.execEventMoved s
  | .segmentGrant => Sys2Proof.Machine.execSegmentGrant s
  | .forwardFrameSent => Sys2Proof.Machine.execForwardFrameSent s
  | .pollFrameSent => Sys2Proof.Machine.execPollFrameSent s
  | .replyWindowTimeout => Sys2Proof.Machine.execReplyWindowTimeout s
  | .entryDue entry => Sys2Proof.Machine.execEntryDue entry s
  | .stationDataStale entry => Sys2Proof.Machine.execStationDataStale entry s
  | .forwardFrameAged => Sys2Proof.Machine.execForwardFrameAged s
  | .lrqRise => Sys2Proof.Machine.execLrqRise s
  | .lrqFall => Sys2Proof.Machine.execLrqFall s
  | .loanLimitReached => Sys2Proof.Machine.execLoanLimitReached s
  | .recallAgeReached entry => Sys2Proof.Machine.execRecallAgeReached entry s
  | .recallTimeout => Sys2Proof.Machine.execRecallTimeout s
  | .deliveryAnswerSend => Sys2Proof.Machine.execDeliveryAnswerSend s
  | .meterCount channel input => Sys2Proof.Machine.execMeterCount channel input s
  | .meterPhaseError channel => Sys2Proof.Machine.execMeterPhaseError channel s
  | .rateWindowClose channel => Sys2Proof.Machine.execRateWindowClose channel s
  | .creepWindowBoundary => Sys2Proof.Machine.execCreepWindowBoundary s
  | .proverEdge => Sys2Proof.Machine.execProverEdge s
  | .authTimerExpiry point => Sys2Proof.Machine.execAuthTimerExpiry point s
  | .settleEnd point => Sys2Proof.Machine.execSettleEnd point s
  | .panelStatusTimer point => Sys2Proof.Machine.execPanelStatusTimer point s
  | .pumpRunSecond pump => Sys2Proof.Machine.execPumpRunSecond pump s
  | .suspendTimerExpiry slot => Sys2Proof.Machine.execSuspendTimerExpiry slot s
  | .spillInputChange input high => Sys2Proof.Machine.execSpillInputChange input high s
  | .spillDebounceExpiry input => Sys2Proof.Machine.execSpillDebounceExpiry input s
  | .estopLoopChange loop isOpen => Sys2Proof.Machine.execEstopLoopChange loop isOpen s
  | .estopTimerExpiry loop => Sys2Proof.Machine.execEstopTimerExpiry loop s
  | .hornPulseToggle => Sys2Proof.Machine.execHornPulseToggle s
  | .linkSilenceExpiry => Sys2Proof.Machine.execLinkSilenceExpiry s
  | .wallClockTick => Sys2Proof.Machine.execWallClockTick s
  | .powerOn => Sys2Proof.Machine.execPowerOn s
  | .lineReset => Sys2Proof.Machine.execLineReset s
  | .softResetTaken duration => Sys2Proof.Machine.execSoftResetTaken duration s
  | .commission => Sys2Proof.Machine.execCommission s
  | .decommission => Sys2Proof.Machine.execDecommission s
  | .timeSet => Sys2Proof.Machine.execTimeSet s
  | .shiftClose => Sys2Proof.Machine.execShiftClose s
  | .stockSet => Sys2Proof.Machine.execStockSet s
  | .reconcile => Sys2Proof.Machine.execReconcile s
  | .authorise => Sys2Proof.Machine.execAuthorise s
  | .cancel => Sys2Proof.Machine.execCancel s
  | .pointEnable => Sys2Proof.Machine.execPointEnable s
  | .pointDisable => Sys2Proof.Machine.execPointDisable s
  | .runLoad => Sys2Proof.Machine.execRunLoad s
  | .runAppend => Sys2Proof.Machine.execRunAppend s
  | .runClearPause => Sys2Proof.Machine.execRunClearPause s
  | .runResume => Sys2Proof.Machine.execRunResume s
  | .runRetry => Sys2Proof.Machine.execRunRetry s
  | .runAbandon => Sys2Proof.Machine.execRunAbandon s
  | .journalRead => Sys2Proof.Machine.execJournalRead s
  | .journalRelease => Sys2Proof.Machine.execJournalRelease s
  | .eventMask => Sys2Proof.Machine.execEventMask s
  | .eventPendingRead => Sys2Proof.Machine.execEventPendingRead s
  | .countersRead => Sys2Proof.Machine.execCountersRead s
  | .shutdownClear => Sys2Proof.Machine.execShutdownClear s
  | .siteStop => Sys2Proof.Machine.execSiteStop s
  | .hornSilence => Sys2Proof.Machine.execHornSilence s
  | .proverArm => Sys2Proof.Machine.execProverArm s
  | .proverRead => Sys2Proof.Machine.execProverRead s
  | .stationRearm => Sys2Proof.Machine.execStationRearm s
  | .accountFind => Sys2Proof.Machine.execAccountFind s
  | .accountRemove => Sys2Proof.Machine.execAccountRemove s
  | .softReset => Sys2Proof.Machine.execSoftReset s
  | .statusRead => Sys2Proof.Machine.execStatusRead s
  | .pollListWrite => Sys2Proof.Machine.execPollListWrite s
  | .productWrite => Sys2Proof.Machine.execProductWrite s
  | .tankWrite => Sys2Proof.Machine.execTankWrite s
  | .strappingWrite => Sys2Proof.Machine.execStrappingWrite s
  | .accountsWrite => Sys2Proof.Machine.execAccountsWrite s
  | .deliveryOrderWrite => Sys2Proof.Machine.execDeliveryOrderWrite s
  | .spillInputWrite => Sys2Proof.Machine.execSpillInputWrite s
  | .sumpWrite => Sys2Proof.Machine.execSumpWrite s
  | .bayParameterWrite => Sys2Proof.Machine.execBayParameterWrite s
  | .runsWrite => Sys2Proof.Machine.execRunsWrite s
  | .tableWrite => Sys2Proof.Machine.execTableWrite s
  | .fieldFrameStart => Sys2Proof.Machine.execFieldFrameStart s
  | .meterRawInputChange channel input high => Sys2Proof.Machine.execMeterRawInputChange channel input high s
  | .filteredLevelChange channel input => Sys2Proof.Machine.execFilteredLevelChange channel input s
  | .proverRawInputChange change => Sys2Proof.Machine.execProverRawInputChange change s

end Sys2Proof.Machine
end

