-- ==== Sys2Proof/Machine/Step.lean ====
section
/-! DEFINITION. One step of the part: it takes the command at the front of the queue, or lets time pass. -/

namespace Sys2Proof.Machine

/-- The command at the front of the queue takes effect on the state that holds the queue's rest. On an empty
queue a microsecond passes and nothing else happens (DESIGN CHOICE, log 1): the spec's timed events are rows of
the table and arrive as commands. -/
def step (s : State) : Host.Outcome State Fault Refusal :=
  match s.pending with
  | [] => .next (s.setClock (s.clock + 1))
  | c :: rest => exec c (s.setPending rest)

/-- The state with the command a word spells in front of its queue; the same state where the word spells none. -/
def State.withFetchWord (s : State) (nbits w : Nat) : State :=
  match decodeTableWord nbits w with
  | some c => s.setPending (c :: s.pending)
  | none => s

end Sys2Proof.Machine
end

