-- ==== Sys2Proof/Safety.lean ====
section
/-! DEFINITION. What the statements about the part are said in: frames by block, requests taken and answered, and the
invariants of a run. -/

namespace Sys2Proof.Machine

/-! ### Frames -/

/-- The blocks of the state, with its clock and its counter of free values. -/
inductive Block where
  | clock
  | choices
  | spt
  | fsm
  | fcl
  | mtc
  | vau
  | dpt
  | srs
  | mac
  | tks
  | ssd
  | jev
  | mgt
deriving DecidableEq, Repr

/-- The block is the same in both states. -/
def Block.same (b : Block) (s t : State) : Prop :=
  match b with
  | .clock => t.clock = s.clock
  | .choices => t.choices = s.choices
  | .spt => t.spt = s.spt
  | .fsm => t.fsm = s.fsm
  | .fcl => t.fcl = s.fcl
  | .mtc => t.mtc = s.mtc
  | .vau => t.vau = s.vau
  | .dpt => t.dpt = s.dpt
  | .srs => t.srs = s.srs
  | .mac => t.mac = s.mac
  | .tks => t.tks = s.tks
  | .ssd => t.ssd = s.ssd
  | .jev => t.jev = s.jev
  | .mgt => t.mgt = s.mgt

/-- From `s` to `t` nothing changes outside the blocks of `l`; the queue of waiting commands does not change. -/
def OnlyBlocks (l : List Block) (s t : State) : Prop := t.pending = s.pending ∧ ∀ b, b ∉ l → b.same s t

/-! ### Requests (R6, R8, R172) -/

/-- The frame `f` at the head of the site receive buffer, ahead of `rest`, is a management request that can be taken:
no soft reset waits, a place is free, and a contested place is the request's turn (when a place is contested is the
model's reading, log 6). -/
def Takes (s : State) (f : Frame) (rest : List Frame) : Prop :=
  s.mgt.softReset = none ∧ s.spt.rx = f :: rest ∧ frameDest f = 0 ∧ frameKind f = 0x20 ∧ s.spt.tx.length < 16 ∧
    (s.jev.queue = [] ∨ s.spt.tx.length ≠ 15 ∨ s.spt.lastContested = .event)

/-- The request in `f` has this access type, object number, index and parameters (section 12.4). -/
def Asks (f : Frame) (access object : Byte) (index : Nat) (params : List Byte) : Prop :=
  index < 65536 ∧ ∃ echo, framePayload f = [access, object] ++ beBytes 2 index ++ [echo] ++ params

/-- The request in `f` has left the buffer and is answered at the tail of the site transmit queue: the response goes
to its source and carries its access type, object, index and echo byte, a status and data (R172). Which claims are
recorded as contested ones is the model's reading (log 6). -/
def Answered (s t : State) (f : Frame) (rest : List Frame) (status : Byte) (data : List Byte) : Prop :=
  t.spt.rx = rest ∧
    t.spt.tx = s.spt.tx ++ [makeFrame (frameSource f) 0x21 ((framePayload f).take 5 ++ [status] ++ data)] ∧
    t.spt.counters = s.spt.counters ∧
    t.spt.lastContested = if s.jev.queue ≠ [] ∧ s.spt.tx.length = 15 then .management else s.spt.lastContested

/-- A request with this access type, object number, index and parameters can be taken now. -/
def Requested (s : State) (f : Frame) (rest : List Frame) (access object : Byte) (index : Nat) (params : List Byte) :
    Prop :=
  Takes s f rest ∧ Asks f access object index params

/-- The command runs and answers the request in `f` with this status and data, nothing changes outside the site port
and the blocks of `l`, and the state that follows has the property `P`. -/
def Serves (c : Instr) (s : State) (f : Frame) (rest : List Frame) (status : Byte) (data : List Byte)
    (l : List Block) (P : State → Prop) : Prop :=
  ∃ t, exec c s = .next t ∧ Answered s t f rest status data ∧ OnlyBlocks (.spt :: l) s t ∧ P t

/-- A step of a run as a request carries it: point, target and pause-after (section 6.1, R185). -/
def stepFields (x : Fin 8 × Nat × Bool) : List Byte := [byte x.1.val] ++ beBytes 4 x.2.1 ++ flagByte x.2.2

/-- The step as it is loaded: result PENDING, nothing delivered (R100). -/
def loadedStep (x : Fin 8 × Nat × Bool) : RunStep :=
  { point := x.1, target := x.2.1, pauseAfter := x.2.2, result := .pending, delivered := 0 }

/-- Steps within the bounds of a request: targets of 1 to 4,000,000,000 cL (section 6.1). -/
def StepsInRange (l : List (Fin 8 × Nat × Bool)) : Prop := ∀ x ∈ l, 1 ≤ x.2.1 ∧ x.2.1 ≤ 4000000000

/-- A segment of a classifier entry meets a frame: it lies within the frame, and each frame byte masked equals the
value byte (R13). -/
def Segment.meets (x : Segment) (f : Frame) : Prop :=
  x.offset + x.mask.length ≤ f.length ∧
    ∀ i, i < x.mask.length → f.getD (x.offset + i) 0 &&& x.mask.getD i 0 = x.value.getD i 0

/-! ### Role records and authorisations (R14, R77 to R83) -/

/-- The frame held, on its way from one station to another, carries the bytes `b` at the role base of a winning entry
that acts on `role`, and more may follow them. It is heard during a loan, or as a reply to POLL with more of its burst
to come. No lockout waits to be reported and no sump is stale, so that the frame, as fresh data of its station, changes
no cause. -/
def Hands (s : State) (f : Frame) (role : Role) (b : List Byte) : Prop :=
  (∃ h, s.fsm.hold = some h ∧ h.frame = f ∧
    (s.fsm.loan = .lent ∨
      (s.fsm.loan = .master ∧ s.fsm.lrq = false ∧ h.inWindow = true ∧ frameKind f ≠ 0x12 ∧
        ∃ x, s.fsm.exchange = some (.poll x) ∧ x.station = frameSource f ∧ x.query = false ∧
          x.goodReplies + 1 < x.burst))) ∧
    frameSource f ≠ 0 ∧ frameDest f ≠ 0 ∧ s.tks.lockouts = [] ∧ (∀ k, (s.sump k).stale = false) ∧
    ∃ e rest, s.winner .fromField f = some e ∧ (e.disposition = .act ∨ e.disposition = .actPass) ∧
      e.role = some role ∧ (framePayload f).drop e.roleBase = b ++ rest

/-- The record in `f` is taken: the hold is free, and nothing changes outside the two ports and the blocks of `l`. -/
def HandedOn (s : State) (l : List Block) (P : State → Prop) : Prop :=
  ∃ t, exec .fieldFrameTaken s = .next t ∧ t.fsm.hold = none ∧ OnlyBlocks (.spt :: .fsm :: l) s t ∧ P t

/-- The journal has room for a further place: fewer than 256 are taken, and record numbers have not run out, nor had
before a line reset (R163, R171). -/
def JournalRoom (j : Jev) : Prop :=
  j.journal.length + j.reserved < 256 ∧ j.nextNumber + j.reserved ≤ 4294967295 ∧ j.spent = false

/-- The bounds of R79 that apply to a TAG or SITE authorisation by the account `a`, whose allowance entry is `e`, with
the preset carried. -/
def State.boundsFor (s : State) (k : PointConfig) (preset : Option Nat) (a : Account) (e : Allowance) :
    List (Nat × Governing) :=
  (preset.map (fun v => (v, Governing.preset))).toList ++
    (e.allowance.map (fun v => (v - e.used - e.committed, Governing.allowance))).toList ++
    [((s.cls a.cls).maxFill, Governing.classMax), ((s.tank k.tank).available, Governing.tank)] ++
    (if s.mgt.online then [] else [((s.cls a.cls).offlineCap, Governing.offlineCap)])

/-- An account of the tag has this property. -/
def State.tagged (s : State) (tag : Nat) (P : Account → Prop) : Prop :=
  ∃ slot a, s.account slot = some a ∧ a.tag = tag ∧ P a

/-- The checks of R77 in order, each with what makes it fail and its code, for a TAG or SITE authorisation that carries
no hour reading, at a point with the configuration `k`. -/
def State.checks (s : State) (p : Fin 8) (k : PointConfig) (tag : Nat) (preset : Option Nat) :
    List (Prop × AuthRefusal) :=
  let point := (s.point p).state
  let tank := (s.tank k.tank).state
  [(point = .uncommissioned, .notCommissioned), (point = .disabled, .pointDisabled), (point ≠ .idle, .busy),
    (s.ssd.level ≠ .normal, .bayShut), (¬JournalRoom s.jev, .journalFull),
    (¬s.tagged tag (fun _ => True), .unknownTag), (s.tagged tag (·.suspended = true), .accountSuspended),
    (s.tagged tag (2 ≤ ·.openCount), .accountBusy),
    (s.tagged tag (·.entryFor k.product = none), .productNotPermitted),
    (s.tagged tag (fun a => a.serviceLock = true ∧ (∃ m, s.product k.product = some m ∧ m.kind = .fuel) ∧
      ∃ v ∈ a.services, v.state = .overdue), .serviceOverdue),
    (s.tagged tag (·.hoursRequired = true), .hoursRequired),
    (tank = .lockedOut ∨ tank = .unset, .tankUnavailable),
    (s.tagged tag (fun a => ∃ e m, a.entryFor k.product = some e ∧ s.product k.product = some m ∧
      (leastBound (s.boundsFor k preset a e)).1 < m.minDispense), .limitTooSmall)]

/-- Every check of R77 but the tenth lets the account `a` of `slot` open a context at the point for a limit `l`
governed by `g`: `e` is its allowance entry for the point's product, and `preset` the preset carried. -/
def MayOpen (s : State) (p : Fin 8) (preset : Option Nat) (k : PointConfig) (slot : Nat) (a : Account) (e : Allowance)
    (l : Nat) (g : Governing) : Prop :=
  ∃ m, (s.point p).state = .idle ∧ (s.point p).config = some k ∧ s.ssd.level = .normal ∧
    JournalRoom s.jev ∧
    s.account slot = some a ∧ a.suspended = false ∧ a.openCount < 2 ∧ a.entryFor k.product = some e ∧
    s.product k.product = some m ∧
    (a.serviceLock = true → m.kind = .fuel → ∀ v ∈ a.services, v.state ≠ .overdue) ∧
    ((s.tank k.tank).state = .normal ∨ (s.tank k.tank).state = .low) ∧
    leastBound (s.boundsFor k preset a e) = (l, g) ∧
    m.minDispense ≤ l

/-- The first check of a list that fails, each check given with what makes it fail, fails as `e`. -/
def FirstFailing {α : Type} (l : List (Prop × α)) (e : α) : Prop :=
  ∃ (before after : List (Prop × α)) (c : Prop), l = before ++ (c, e) :: after ∧ c ∧ ∀ b ∈ before, ¬b.1

/-- How an authorisation came and what its hour reading was worth, with the account's hours and services after it and
the events it raised before the opening. -/
structure Opening where
  source : AuthSource
  hour : Option Nat
  result : HourResult
  hours : HourRecord
  services : List Service
  jev : Jev

/-- A context of the account `a` of `slot` has opened at the point in one step (R80, R83, R163). -/
def Opens (s t : State) (p : Fin 8) (k : PointConfig) (slot : Nat) (a : Account) (e : Allowance) (l : Nat)
    (g : Governing) (o : Opening) : Prop :=
  (t.point p).state = .authorised ∧ (t.point p).refusal = none ∧ (t.point p).config = (s.point p).config ∧
    (∃ c, (t.point p).context = some c ∧ c.source = o.source ∧ c.account = slot ∧ c.tag = a.tag ∧ c.run = none ∧
      c.hour = o.hour ∧ c.hourResult = o.result ∧ c.limit = l ∧ c.governing = g ∧
      c.startCount = (s.channel p).count ∧ c.posted = 0 ∧ c.endCause = none ∧ c.startTime = s.stamp ∧
      c.startValid = s.mgt.timeValid ∧ c.authDue = s.clock + s.mgt.params.authTimeout * 1000000) ∧
    (∀ q, q ≠ p → t.point q = s.point q) ∧
    (∀ j, t.channel j = if j = p then { s.channel p with creep := 0 } else s.channel j) ∧
    t.jev = { o.jev with reserved := o.jev.reserved + 1 } ∧
    (∀ j, t.tank j =
      if j = k.tank then { s.tank j with committed := (s.tank j).committed + l } else s.tank j) ∧
    (∃ b, t.account slot = some b ∧
      b = { a with
        openCount := a.openCount + 1, hours := o.hours, services := o.services, allowances := b.allowances } ∧
      b.entryFor k.product = some { e with committed := e.committed + l }) ∧
    ∀ j, j ≠ slot → t.account j = s.account j

/-- A refused authorisation from `source` has left the point as it was but for the refusal shown, and the flags that the
frame's figures set in an open context (log 20). The point's panel, where it has one and the forward queue has a place, is
sent a frame with the code (R81, R96). -/
def Refuses (s t : State) (p : Fin 8) (code : AuthRefusal) : Prop :=
  t.point p = { s.point p with
    refusal := some code, statusFrom := (t.point p).statusFrom, context := (t.point p).context } ∧
    ((s.point p).context = none → (t.point p).context = none) ∧
    (∀ c, (s.point p).context = some c → ∃ d, (t.point p).context = some d ∧
      d = { c with reverse := d.reverse, saturated := d.saturated }) ∧
    (∀ q, q ≠ p → t.point q = s.point q) ∧ t.dpt.pumps = s.dpt.pumps ∧
    ((s.point p).panel = 0 → t.fsm = s.fsm) ∧
    ((s.point p).panel ≠ 0 → s.fsm.queue.length < 8 → ∃ figures, t.fsm = { s.fsm with
      queue := s.fsm.queue ++ [{
        frame := makeFrame (s.point p).panel 0x30
          ([BitVec.ofNat 8 p.val, (s.point p).state.code, code.code] ++ figures),
        sort := .panelStatus, joined := s.ms }] })

/-- The events of an authorisation refused with the code: AUTH_REFUSED, then JOURNAL_FULL once (R81, R163); their order
is the model's reading (log 35), and so is the detail's layout (log 14). -/
def refusalEvents (s : State) (p : Fin 8) (source : AuthSource) (code : AuthRefusal) : Jev :=
  let s := s.raise .authRefused p.val [code.code, source.code]
  if code = .journalFull ∧ s.jev.fullReported = false then
    (State.raise (s.setJev { s.jev with fullReported := true }) .journalFull 0xFFFF
      (beBytes 2 s.jev.journal.length ++ beBytes 2 s.jev.reserved)).jev
  else s.jev

/-! ### The checks of COMMISSION (R67, R72, R130, R175) -/

/-- The checks of a tank in service, in their order, each with what makes it fail (R67, R130). The strapping points are
numbered from 0, as R68 numbers them. -/
def State.tankChecks (s : State) (t : Fin 8) : List (Prop × CheckFault) :=
  let x := s.tank t
  let fails := fun (P : TankConfig → Prop) (code : CheckCode) (point : Option Nat) =>
    (∃ c, x.config = some c ∧ P c, { object := 0x02, index := t.val, code := code, strapPoint := point })
  let breaks := fun (P : StrapPoint → StrapPoint → Prop) (code : CheckCode) =>
    (List.range (x.strap.getD []).length).map (fun i =>
      fails (fun _ => ∃ l a b, x.strap = some l ∧ l[i]? = some a ∧ l[i + 1]? = some b ∧ P a b) code (some (i + 1)))
  let limits := fun (P : TankConfig → List StrapPoint → Prop) (code : CheckCode) =>
    fails (fun c => ∃ l, x.strap = some l ∧ P c l) code none
  [fails (fun c => s.product c.product = none) .tankProduct none,
    fails (fun _ => x.strap = none) .strapAbsent none] ++
  breaks (fun a b => b.level ≤ a.level) .strapLevels ++
  breaks (fun a b => b.volume < a.volume) .strapVolumes ++
  [limits (fun c _ => c.low ≤ c.lockout ∨ c.capacity ≤ c.low) .tankLimits,
    limits (fun c l => c.highHigh ≤ firstLevel l ∨ lastLevelOf l < c.highHigh) .tankHighHigh,
    limits (fun c l => c.safeFill = 0 ∨ lastVolumeOf l < c.safeFill) .tankSafeFill,
    limits (fun c _ => c.gauge = 0) .tankGauge]

/-- The checks of a point in service, in their order (R72). -/
def State.pointFaults (s : State) (p : Fin 8) : List (Prop × CheckFault) :=
  let fails := fun (P : PointConfig → Prop) (code : CheckCode) =>
    (∃ k, (s.point p).config = some k ∧ P k, { object := 0x04, index := p.val, code := code, strapPoint := none })
  [fails (fun k => s.product k.product = none) .pointProduct,
    fails (fun k => ∀ c, (s.tank k.tank).config = some c → c.product ≠ k.product) .pointTank,
    fails (fun k => (s.pump k.pump).fitted = false) .pointPump]

/-- The checks of COMMISSION in their order: products, channels, tanks, points (R175). That NO_PRODUCT names the record 0
is the model's reading (log 30). -/
def State.commissionChecks (s : State) : List (Prop × CheckFault) :=
  [(∀ k, s.product k = none, { object := 0x01, index := 0, code := .noProduct, strapPoint := none })] ++
  all8.map (fun c => ((s.channel c).config.k = 0,
    { object := 0x06, index := c.val, code := .channelK, strapPoint := none })) ++
  all8.flatMap s.tankChecks ++ all8.flatMap s.pointFaults

/-! ### Field frames routed (R10 to R16) -/

/-- What the classifier makes of a frame from the field that no role record is taken from: unmatched, it is counted and
goes where the default disposition sends it; by a winner that drops, nowhere; by one that passes, to the site, unless
the bay level gates it. A frame that finds no place in the site transmit queue is dropped. -/
def FieldRouted (s : State) (f : Frame) (t : State) : Prop :=
  let dropped := fun (v : State) => v.setSpt { s.spt with counters := { s.spt.counters with
    drops := min (s.spt.counters.drops + 1) 65535 } }
  let forwarded := fun (v : State) =>
    if s.spt.tx.length < 16 then v.setSpt { s.spt with tx := s.spt.tx ++ [f] } else dropped v
  (s.winner .fromField f = none ∧
    let v := s.setFsm { s.fsm with counters := { s.fsm.counters with
      unclassified := min (s.fsm.counters.unclassified + 1) 65535 } }
    t = if s.mgt.params.fieldPass then forwarded v else v) ∨
  ∃ e, s.winner .fromField f = some e ∧
    ((e.disposition = .drop ∧ t = s) ∨
      (e.disposition = .pass ∧ t = if e.gated = true ∧ s.ssd.level ≠ .normal then dropped s else forwarded s))

/-! ### Exchanges (R19, R21, R23, R30) -/

/-- The poll exchange `x` with the entry `e` has ended, its outcome applied. With no good reply the entry counts a miss: an
ACTIVE entry goes SILENT at the third, a JOINING or ACKING one goes back to ABSENT at the third, and an ABSENT or SILENT
one stays. With a good reply its misses are cleared and a SILENT entry is ACTIVE. The entry is next due one interval of
its state after the exchange began. -/
def ExchangeEnds (s t : State) (x : PollExchange) (e : PollEntry) : Prop :=
  let n := min (e.missCount + 1) 255
  let wait := if e.state = .active then e.interval else if e.state = .silent then 5000 else 500
  t.fsm = { s.fsm with
    exchange := none, freeAt := max s.fsm.freeAt (s.clock + 120), entries := t.fsm.entries,
    counters := t.fsm.counters, hold := s.fsm.hold.map (fun h => { h with inWindow := false }),
    receiving := s.fsm.receiving.map (fun _ => { inWindow := false }) } ∧
    (∀ k, k ≠ x.entry → t.entry k = s.entry k) ∧
    (x.goodReplies = 0 → t.fsm.counters =
        { s.fsm.counters with pollMisses := min (s.fsm.counters.pollMisses + 1) 65535 } ∧
      (n < 3 ∨ e.state = .absent ∨ e.state = .silent ∨ e.state = .incompatible → t.jev = s.jev ∧
        t.entry x.entry = some { e with missCount := n, dueTime := x.start + wait, due := false }) ∧
      (3 ≤ n → e.state = .active → t.jev = (s.raise .stationSilent x.entry.val []).jev ∧ t.entry x.entry =
        some { e with state := .silent, missCount := n, dueTime := x.start + 5000, due := false }) ∧
      (3 ≤ n → e.state = .joining ∨ e.state = .acking → t.jev = s.jev ∧ t.entry x.entry = some { e with
        state := .absent, caps := none, stationType := none, matchCount := 0, ackCount := 0, legacyCount := 0,
        missCount := 0, dueTime := x.start + 500, due := false })) ∧
    (x.goodReplies ≠ 0 → t.fsm.counters = s.fsm.counters ∧
      (e.state ≠ .silent → t.jev = s.jev ∧
        t.entry x.entry = some { e with missCount := 0, dueTime := x.start + wait, due := false }) ∧
      (e.state = .silent → t.jev = (s.raise .stationJoined x.entry.val [1]).jev ∧ t.entry x.entry =
        some { e with state := .active, missCount := 0, dueTime := x.start + e.interval, due := false }))

/-- No further step follows the transaction of the context: it belongs to no run, or its run is not ACTIVE, or the step
ends SHORT, is the last, or pauses the run after it (R105). -/
def NoStepFollows (s : State) (c : Context) : Prop :=
  ∀ id i j x, c.run = some (id, i) → s.slot j = some x → x.runId = id → x.state = .active →
    c.endCause ≠ some .limitReached ∨ x.steps.length ≤ x.current ∨
      (1 ≤ x.current ∧ ∃ z, x.steps[x.current - 1]? = some z ∧ z.pauseAfter = true)

/-! ### Invariants -/

/-- No queue holds more than its places (R6, R7, R9, R166). -/
def QueuesBounded (s : State) : Prop :=
  s.spt.rx.length ≤ 4 ∧ s.spt.tx.length ≤ 16 ∧ s.fsm.queue.length ≤ 8 ∧ s.jev.queue.length ≤ 32

/-- The bay level is the highest level among the entries of the cause set, or NORMAL when it is empty (R155). -/
def LevelIsHighest (s : State) : Prop :=
  (∀ k e, s.cause k = some e → e.level.rank ≤ s.ssd.level.rank) ∧
    (s.ssd.level = .normal ∨ ∃ k e, s.cause k = some e ∧ e.level = s.ssd.level)

/-- Record numbers strictly increase from the oldest record to the newest, below the next number (R162). -/
def JournalNumbered (s : State) : Prop :=
  (s.jev.journal.map Record.number).Pairwise (· < ·) ∧ ∀ r ∈ s.jev.journal, r.number < s.jev.nextNumber

/-- The account table lists its slots in rising order, and no two slots hold one tag (section 7.2). -/
def AccountsDistinct (s : State) : Prop :=
  (s.mac.accounts.map (·.1)).Pairwise (· < ·) ∧
    ∀ e ∈ s.mac.accounts, ∀ d ∈ s.mac.accounts, e.2.tag = d.2.tag → e.1 = d.1

/-- Points with an open context. -/
def State.openContexts (s : State) : Nat := all8.countP (fun p => (s.point p).context.isSome)

/-- Tanks with an open delivery. -/
def State.openDeliveries (s : State) : Nat := all8.countP (fun t => (s.tank t).delivery.isSome)

/-- AUTHORISED, FAST, SLOW or STOPPING. -/
def PointState.isOpen : PointState → Bool
  | .authorised => true
  | .fast => true
  | .slow => true
  | .stopping => true
  | _ => false

/-- Every open context and every open delivery has its place in the journal, and the states that say what is open
agree: points with contexts are configured and in an open state, open deliveries are the ACTIVE orders, references
are unique, and an uncommissioned bay has nothing open (R163, R42, R141, R139, R176). -/
def WorkReserved (s : State) : Prop :=
  s.jev.journal.length + s.openContexts + s.openDeliveries ≤ 256 ∧
    s.jev.reserved = s.openContexts + s.openDeliveries ∧
    (∀ p, (s.point p).context.isSome = (s.point p).state.isOpen) ∧
    (∀ p, (s.point p).context.isSome → (s.point p).config.isSome) ∧
    (s.mgt.commission = .uncommissioned →
      (∀ p, (s.point p).state = .uncommissioned) ∧ ∀ t, (s.tank t).delivery = none) ∧
    (∀ t r, (s.tank t).delivery = some r →
      ∃ o x, s.order o = some x ∧ x.reference = r ∧ x.tank = t ∧ x.state = .active) ∧
    (∀ o x, s.order o = some x → x.state = .active → (s.tank x.tank).delivery = some x.reference) ∧
    ∀ o i x y, s.order o = some x → s.order i = some y → x.reference = y.reference → o = i

/-- What a point's open context still has committed on a tank: its limit less its posted net, floored at 0 (R83). -/
def State.remainingOn (s : State) (t : Fin 8) (p : Fin 8) : Nat :=
  match (s.point p).config, (s.point p).context with
  | some k, some c => if k.tank = t then c.limit - c.posted else 0
  | _, _ => 0

/-- Every tank's committed volume is the sum of the remaining commitments of the open contexts drawing from it
(R83). -/
def CommitmentsRight (s : State) : Prop := ∀ t, (s.tank t).committed = (all8.map (s.remainingOn t)).sum

/-- What a point's open context of this slot and product still has committed: its limit less its posted net, floored
at 0 (R83). -/
def State.remainingOf (s : State) (slot : Nat) (product : Fin 6) (p : Fin 8) : Nat :=
  match (s.point p).config, (s.point p).context with
  | some k, some c => if c.account = slot ∧ k.product = product then c.limit - c.posted else 0
  | _, _ => 0

/-- The point's open context belongs to this slot. -/
def State.opensFor (s : State) (slot : Nat) (p : Fin 8) : Bool :=
  match (s.point p).context with
  | none => false
  | some c => decide (c.account = slot)

/-- Every account's committed volume for a product is the sum of the remaining commitments of its open contexts for
it, its open count is how many it has, at most 2, and each open context's account is held and has an entry for the
product (R83, R77, R115). -/
def AccountsRight (s : State) : Prop :=
  (∀ slot a, s.account slot = some a →
    (∀ e ∈ a.allowances, e.committed = (all8.map (s.remainingOf slot e.product)).sum) ∧
      a.openCount = all8.countP (s.opensFor slot) ∧ a.openCount ≤ 2) ∧
    ∀ p k c, (s.point p).config = some k → (s.point p).context = some c →
      ∃ a, s.account c.account = some a ∧ (a.entryFor k.product).isSome = true

end Sys2Proof.Machine
end

