-- ==== Sys2Proof/Certificates/Slice0/Obligations.lean ====
section
/-! DEFINITION. The statements about the part that the provers prove, in the order of OBLIGATIONS.json. -/

section

open Sys2Proof Sys2Proof.Machine

/-! ### A step -/

/-- A step runs the command at the front of the queue on the state that holds the queue's rest. With nothing waiting
a microsecond passes (the model's choice, log 1). -/
def Obligations.StepRunsTheFrontCommand : Prop :=
  (∀ (s : State) (c : Instr) (rest : List Instr), s.pending = c :: rest → step s = exec c (s.setPending rest)) ∧
    ∀ s : State, s.pending = [] → step s = .next (s.setClock (s.clock + 1))

/-- Every command completes in every state and leaves the queue of waiting commands as it is; only a reset moves the
clock or the counter of free values (logs 1, 2 and 9: the spec describes no event that stops the part). -/
def Obligations.EveryCommandCompletes : Prop :=
  ∀ (c : Instr) (s : State), ∃ t, exec c s = .next t ∧ t.pending = s.pending ∧
    ((c ≠ .powerOn ∧ c ≠ .lineReset ∧ ∀ d, c ≠ .softResetTaken d) → t.clock = s.clock ∧ t.choices = s.choices)

/-! ### Invariants -/

/-- The state after power-on meets every invariant stated below. State.reset stands for that state: it is the moment at
which power-on has ended, with RESET_DONE queued and the lines at the levels that are the model's choice (log 4). -/
def Obligations.ResetMeetsTheInvariants : Prop :=
  QueuesBounded State.reset ∧ LevelIsHighest State.reset ∧ JournalNumbered State.reset ∧
    AccountsDistinct State.reset ∧ WorkReserved State.reset ∧ CommitmentsRight State.reset ∧
    AccountsRight State.reset

/-- No step makes a queue hold more than its places. -/
def Obligations.QueuesStayBounded : Prop :=
  ∀ s t : State, QueuesBounded s → step s = .next t → QueuesBounded t

/-- Every step keeps the bay level at the highest level among the entries of the cause set. -/
def Obligations.LevelStaysHighest : Prop :=
  ∀ s t : State, LevelIsHighest s → step s = .next t → LevelIsHighest t

/-- Every step keeps the journal's record numbers rising, below the next record number. -/
def Obligations.JournalStaysNumbered : Prop :=
  ∀ s t : State, JournalNumbered s → step s = .next t → JournalNumbered t

/-- No step makes two slots hold one tag or puts the account table's slots out of order. -/
def Obligations.AccountsStayDistinct : Prop :=
  ∀ s t : State, AccountsDistinct s → step s = .next t → AccountsDistinct t

/-- Every step keeps a journal place for every open context and delivery, and what is open agrees with the states of
points, tanks and orders. -/
def Obligations.OpenWorkStaysReserved : Prop :=
  ∀ s t : State, WorkReserved s → step s = .next t → WorkReserved t

/-- Every step keeps each tank's committed volume at the sum of what the open contexts on it have left, and each
account's committed volume for a product, and its open count, at what its own open contexts make them. -/
def Obligations.CommitmentsStayRight : Prop :=
  (∀ s t : State, WorkReserved s → CommitmentsRight s → step s = .next t → CommitmentsRight t) ∧
    ∀ s t : State, WorkReserved s → AccountsDistinct s → AccountsRight s → step s = .next t → AccountsRight t

/-- While the part is COMMISSIONED no command but power-on and line reset changes a structural table: the products,
the channel, point and tank configurations, the fitted pumps and the strapping tables. -/
def Obligations.CommissionedTablesStand : Prop :=
  ∀ (c : Instr) (s t : State), s.mgt.commission = .commissioned → c ≠ .powerOn → c ≠ .lineReset →
    exec c s = .next t →
      t.vau = s.vau ∧ (∀ k, (t.channel k).config = (s.channel k).config) ∧
        (∀ p, (t.point p).config = (s.point p).config ∧ (t.point p).idle = (s.point p).idle) ∧
        (∀ k, (t.pump k).fitted = (s.pump k).fitted) ∧
        ∀ k, (t.tank k).config = (s.tank k).config ∧ (t.tank k).strap = (s.tank k).strap

/-- A channel's totaliser changes by the channel's own counts and by power-on, and by no other command. -/
def Obligations.TotalisersChangeByCountsAlone : Prop :=
  ∀ (c : Instr) (s t : State) (k : Fin 8), (∀ i, c ≠ .meterCount k i) → c ≠ .powerOn → exec c s = .next t →
    (t.channel k).totaliser = (s.channel k).totaliser

/-- The first end taken at a point sets its transaction's end cause and moves the point to STOPPING; every later
command but the settle's end and a reset leaves a STOPPING point and its end cause as they are. A soft reset completes
a context that is already STOPPING with the cause it has. -/
def Obligations.FirstEndStands : Prop :=
  (∀ (c : Instr) (s t : State) (p : Fin 8) (x : Context), WorkReserved s →
    c ≠ .settleEnd p → c ≠ .powerOn → c ≠ .lineReset → (∀ d, c ≠ .softResetTaken d) →
    (s.point p).context = some x → exec c s = .next t →
      ((s.point p).state = .stopping →
        (t.point p).state = .stopping ∧ ∃ y, (t.point p).context = some y ∧ y.endCause = x.endCause) ∧
      ((s.point p).state.running = true →
        ∃ y, (t.point p).context = some y ∧
          (((t.point p).state.running = true ∧ y.endCause = x.endCause) ∨
            ((t.point p).state = .stopping ∧ y.endCause ≠ none)))) ∧
  ∀ (s t : State) (p : Fin 8) (x : Context) (d : Nat), WorkReserved s → s.mgt.softReset = some 0 →
    (s.point p).context = some x → (s.point p).state = .stopping → exec (.softResetTaken d) s = .next t →
      ∃ r, .dispense r ∈ t.jev.journal ∧ s.jev.nextNumber ≤ r.number ∧ r.point = p ∧ r.tag = x.tag ∧
        r.endCause = x.endCause

/-! ### Resets -/

/-- Power-on gives every block its power-on state, but for the levels of the pins; line reset does the same, but keeps
the totalisers, the cause set with every entry LATCHED, the bay level, the next record number, whether record numbers had
run out (in a flag that is the model's, log 54) and the soft reset count. How the pins stand (log 4), the values of the
registers that the chapters give no reset value (log 5), that the segment counts as idle at once (log 46) and what line
reset makes of a register that no chapter's reset section names (log 42) are the model's. -/
def Obligations.PowerOnAndLineReset : Prop :=
  ∀ s : State,
    (∃ t, exec .powerOn s = .next t ∧ t.pending = s.pending ∧ t.clock = 0 ∧ t.spt = Reset.spt ∧
      t.fsm = Reset.fsm s.fsm.lrq ∧ t.fcl = Reset.fcl ∧ t.vau = Reset.vau ∧ t.dpt = Reset.dpt ∧ t.srs = Reset.srs ∧
      t.mac = Reset.mac ∧ t.tks = Reset.tks ∧ t.jev = Reset.jev ∧ t.mgt = Reset.mgt ∧
      (∀ k, t.channel k = Reset.channel (s.channel k).inputA.raw (s.channel k).inputB.raw 0) ∧
      t.mtc.armed = none ∧ t.mtc.capture = none ∧
      (∀ i, t.spill i = Reset.spill (s.spill i).raw) ∧ (∀ l, t.loop l = Reset.loop (s.loop l).isOpen) ∧
      (∀ k, t.sump k = Reset.sump) ∧ (∀ k, t.cause k = none) ∧ t.ssd.level = .normal ∧ t.ssd.silenced = false) ∧
    ∃ t, exec .lineReset s = .next t ∧ t.pending = s.pending ∧ t.clock = 0 ∧ t.spt = Reset.spt ∧
      t.fsm = Reset.fsm s.fsm.lrq ∧ t.fcl = Reset.fcl ∧ t.vau = Reset.vau ∧ t.dpt = Reset.dpt ∧ t.srs = Reset.srs ∧
      t.mac = Reset.mac ∧ t.tks = Reset.tks ∧
      (∀ k, t.channel k =
        Reset.channel (s.channel k).inputA.raw (s.channel k).inputB.raw (s.channel k).totaliser) ∧
      t.mtc.armed = none ∧ t.mtc.capture = none ∧
      (∀ i, t.spill i = Reset.spill (s.spill i).raw) ∧ (∀ l, t.loop l = Reset.loop (s.loop l).isOpen) ∧
      (∀ k, t.sump k = Reset.sump) ∧
      (∀ k, t.cause k = (s.cause k).map (fun e => { e with active := false })) ∧
      t.ssd.level = s.ssd.level ∧ t.ssd.silenced = false ∧
      t.jev.journal = [] ∧ t.jev.nextNumber = s.jev.nextNumber ∧ t.jev.reserved = 0 ∧
      (t.jev.spent = true ↔ s.jev.spent = true ∨ 4294967295 < s.jev.nextNumber + s.jev.reserved) ∧
      t.jev.fullReported = false ∧ t.jev.masks = Reset.jev.masks ∧ t.jev.pendings = Reset.jev.pendings ∧ t.jev.lost = false ∧
      t.jev.queue = [Reset.resetDone 2 (BitVec.ofNat 8 t.mgt.lineResets) (BitVec.ofNat 8 s.mgt.softResets)] ∧
      t.mgt = { Reset.mgt with
        resetKind := .line, lineResets := min (s.mgt.lineResets + 1) 255, softResets := s.mgt.softResets }

/-- A soft reset whose response has been sent ends all open work, each piece with a journal record in its reserved
place, keeps the tables, the totalisers, the counters and the commission state, makes every poll list entry ABSENT and
every retained cause LATCHED (but for SUMP_STALE, judged as the reset ends), and restarts uptime. How long the reset
takes is an operand of the command (logs 1 and 22); that nothing is kept of an exchange (log 46) or of the suspend
reason of a run that it abandons (log 48), and that a wet spill input's debounce runs from its end, one of 0 too (log
63), is the model's choice too. -/
def Obligations.SoftResetTaken : Prop :=
  ∀ (s : State) (d : Nat), WorkReserved s → s.mgt.softReset = some 0 →
    ∃ t, exec (.softResetTaken d) s = .next t ∧ t.pending = s.pending ∧ t.clock = 0 ∧
      t.spt = { Reset.spt with counters := s.spt.counters } ∧ t.fcl = s.fcl ∧ t.vau = s.vau ∧
      t.fsm.unused = s.fsm.unused ∧ (∀ p, (t.point p).idle = (s.point p).idle) ∧
      (t.fsm.exchange = none ∧ t.fsm.hold = none ∧ t.fsm.receiving = none ∧ t.fsm.answer = none ∧
        t.fsm.lrq = s.fsm.lrq ∧ (s.fsm.lrq = false → t.fsm.loan = .master) ∧
        (s.fsm.counters.forwardDrops ≤ 65535 → t.fsm.counters = s.fsm.counters)) ∧
      (∀ e, t.entry e = (s.entry e).map (fun x => { x with
        state := .absent, format := none, legacy := false, caps := none, stationType := none, matchCount := 0,
        ackCount := 0, legacyCount := 0, missCount := 0, dueTime := 0, due := true, dataTime := none,
        reportedFresh := false })) ∧
      (∀ p, (t.point p).context = none ∧ (t.point p).config = (s.point p).config ∧ (t.point p).refusal = none ∧
        (t.point p).state = if (s.point p).context = none then (s.point p).state else .idle) ∧
      (∀ k, (t.pump k).fitted = (s.pump k).fitted ∧ (t.pump k).runTime = (s.pump k).runTime) ∧
      (∀ k, (s.slot k = none → t.slot k = none) ∧ ∀ x, s.slot k = some x →
        (∃ y, t.slot k = some y ∧ y.runId = x.runId ∧ y.account = x.account ∧ y.state ≠ .active ∧
          y.state ≠ .suspended) ∧
        ((∀ p c r, (s.point p).context = some c → c.run = some r → r.1 ≠ x.runId) → t.slot k = some
          (if x.state = .active ∨ x.state = .suspended then { x with
            state := .abandoned, suspendReason := none, suspendDue := none, abandonReason := some .reset }
          else x))) ∧
      t.mac.classes = s.mac.classes ∧
      (∀ j, (s.account j = none → t.account j = none) ∧ ∀ a, s.account j = some a →
        (∃ b, t.account j = some b ∧ b.tag = a.tag ∧ b.cls = a.cls ∧ b.suspended = a.suspended ∧
          b.hoursRequired = a.hoursRequired ∧ b.serviceLock = a.serviceLock ∧
          b.allowances.map (fun e => (e.product, e.allowance)) =
            a.allowances.map (fun e => (e.product, e.allowance))) ∧
        ((∀ p c, (s.point p).context = some c → c.account ≠ j) → t.account j = some a)) ∧
      (∀ k, (t.tank k).delivery = none ∧ (t.tank k).config = (s.tank k).config ∧
        (t.tank k).strap = (s.tank k).strap ∧ (t.tank k).gauge = .stale) ∧
      (∀ o, (s.order o = none → t.order o = none) ∧ ∀ x, s.order o = some x →
        (x.state ≠ .active → t.order o = some x) ∧
        (x.state = .active → ∃ n, s.jev.nextNumber ≤ n ∧ t.order o = some { x with
          state := .ended, endTime := s.stamp, endCause := some (.ended .reset), record := some n })) ∧
      (∃ new, t.jev.journal = s.jev.journal ++ new ∧ new.length = s.openContexts + s.openDeliveries) ∧
      t.jev.nextNumber = s.jev.nextNumber + (s.openContexts + s.openDeliveries) ∧ t.jev.reserved = 0 ∧
      t.jev.spent = s.jev.spent ∧ t.jev.fullReported = s.jev.fullReported ∧ t.jev.masks = s.jev.masks ∧
      (∀ k, (t.channel k).totaliser = (s.channel k).totaliser ∧ (t.channel k).config = (s.channel k).config ∧
        (t.channel k).phaseErrors = (s.channel k).phaseErrors ∧ (t.channel k).count = 0) ∧
      t.mtc.armed = none ∧ t.mtc.capture = none ∧
      (∀ i, t.spill i = { s.spill i with
        present := false,
        timing := if (s.spill i).enabled = true ∧ (s.spill i).raw ≠ (s.spill i).activeLow then some 0 else none }) ∧
      (∀ l, t.loop l = Reset.loop (s.loop l).isOpen) ∧
      (∀ k, (t.sump k).config = (s.sump k).config ∧ (t.sump k).lastLevel = none ∧ (t.sump k).high = false ∧
        (t.sump k).highHigh = false ∧
        ((t.sump k).stale = true ↔ s.mgt.commission = .commissioned ∧ (s.sump k).config.station ≠ 0)) ∧
      (∀ k, (∀ j, k ≠ .sumpStale j) → t.cause k = (s.cause k).map (fun e => { e with active := false })) ∧
      t.mgt.commission = s.mgt.commission ∧ t.mgt.params = s.mgt.params ∧ t.mgt.wall = s.mgt.wall ∧
      t.mgt.timeValid = s.mgt.timeValid ∧ t.mgt.resetKind = .soft ∧ t.mgt.lineResets = s.mgt.lineResets ∧
      t.mgt.softResets = min (s.mgt.softResets + 1) 255 ∧ t.mgt.softReset = none ∧ t.mgt.assembly = none ∧
      t.mgt.online = true

/-! ### The site link (chapter 1) -/

/-- A site frame at its end gap: an invalid one is counted under its first fault and nothing else happens; a valid one
is counted, joins the receive buffer or is lost to overrun, restarts the link silence timer and ends an outage (whose
length in seconds is the model's reading of the event's detail, log 14). That the timer is reckoned in whole ms is its
choice (log 1). -/
def Obligations.SiteFrameEnds : Prop :=
  ∀ (s : State) (f : Frame) (framing : Bool),
    let n := f.length
    let c := s.spt.counters
    let whole := 6 ≤ n ∧ n ≤ 126 ∧ num f 3 1 ≤ 120 ∧ num f 3 1 = n - 6
    let checks := beNat (f.drop (n - 2)) = (crc (f.take (n - 2))).toNat
    (framing = true → exec (.siteFrameEnd f framing) s =
      .next (s.setSpt { s.spt with counters := { c with framingErrors := min (c.framingErrors + 1) 65535 } })) ∧
    (framing = false → ¬whole → exec (.siteFrameEnd f framing) s =
      .next (s.setSpt { s.spt with counters := { c with lengthErrors := min (c.lengthErrors + 1) 65535 } })) ∧
    (framing = false → whole → ¬checks → exec (.siteFrameEnd f framing) s =
      .next (s.setSpt { s.spt with counters := { c with checkErrors := min (c.checkErrors + 1) 65535 } })) ∧
    (framing = false → whole → checks →
      ∃ t, exec (.siteFrameEnd f framing) s = .next t ∧ OnlyBlocks [.spt, .jev, .mgt] s t ∧
        (s.spt.rx.length < 4 → t.spt = { s.spt with
          rx := s.spt.rx ++ [f], counters := { c with received := min (c.received + 1) 65535 } }) ∧
        (4 ≤ s.spt.rx.length → t.spt = { s.spt with counters := { c with
          received := min (c.received + 1) 65535, overruns := min (c.overruns + 1) 65535 } }) ∧
        t.mgt = { s.mgt with
          online := true,
          silenceDue := if s.mgt.params.linkSilence = 0 then none else some (s.ms + s.mgt.params.linkSilence * 1000) } ∧
        (s.mgt.online = true → t.jev = s.jev) ∧
        (s.mgt.online = false → t.jev = s.jev.take
          { kind := .online, source := 0xFFFF, uptime := s.uptime,
            detail := beBytes 4 ((s.ms - s.mgt.offlineSince) / 1000) ++ [0, 0, 0, 0] }))

/-- The frame at the head of the site receive buffer that is no request: for station 0 it is discarded; for a station
it is forwarded or not by the classifier's winner, or the site default when none matches. A request too short,
the bytes it lacks taken as 0, or for an unknown object is answered BAD_LENGTH or NOT_FOUND (by this command, the
model's choice, log 3). -/
def Obligations.SiteFrameRouted : Prop :=
  (∀ (s : State) (f : Frame) (rest : List Frame), s.mgt.softReset = none → s.spt.rx = f :: rest →
    let popped := s.setSpt { s.spt with rx := rest }
    let joins := fun (u : State) (gated : Bool) => u.setFsm { u.fsm with
      queue := s.fsm.queue ++ [{ frame := f, sort := .site gated, joined := s.ms }] }
    let dropped := fun (u : State) => u.setFsm { u.fsm with counters := { u.fsm.counters with
      forwardDrops := min (u.fsm.counters.forwardDrops + 1) 65535 } }
    let unmatched := popped.setFsm { s.fsm with counters := { s.fsm.counters with
      unclassified := min (s.fsm.counters.unclassified + 1) 65535 } }
    (frameDest f = 0 → frameKind f ≠ 0x20 → exec .siteFrameRouted s = .next popped) ∧
    (frameDest f ≠ 0 → s.winner .fromSite f = none → exec .siteFrameRouted s = .next
      (if s.mgt.params.sitePass then
        if s.fsm.queue.length < 8 then joins unmatched false else dropped unmatched
      else unmatched)) ∧
    ∀ e, frameDest f ≠ 0 → s.winner .fromSite f = some e →
      (e.disposition = .drop → exec .siteFrameRouted s = .next popped) ∧
      (e.disposition = .pass → exec .siteFrameRouted s = .next
        (if (e.gated = false ∨ s.ssd.level = .normal) ∧ s.fsm.queue.length < 8 then joins popped e.gated
        else dropped popped))) ∧
  ∀ (s : State) (f : Frame) (rest : List Frame), Takes s f rest →
    ((framePayload f).length < 5 → ∃ t, exec .siteFrameRouted s = .next t ∧ OnlyBlocks [.spt] s t ∧
      t.spt.rx = rest ∧ t.spt.tx = s.spt.tx ++
        [makeFrame (frameSource f) 0x21 ((framePayload f ++ [0, 0, 0, 0, 0]).take 5 ++ [1])]) ∧
    ∀ access object index params, Asks f access object index params →
      ¬((0x01 ≤ object.toNat ∧ object.toNat ≤ 0x0F) ∨ (0x20 ≤ object.toNat ∧ object.toNat ≤ 0x3E)) →
        Serves .siteFrameRouted s f rest 4 [] [] (fun _ => True)

/-- The frame at the head of the site transmit queue leaves it, one frame nearer a soft reset that waits; the event at
the head of the event queue moves into a free place, unless the place is a request's turn (when a place is contested is the
model's reading, log 6). -/
def Obligations.SiteQueueMoves : Prop :=
  (∀ (s : State) (f : Frame) (rest : List Frame), s.spt.tx = f :: rest →
    ∃ t, exec .siteFrameSent s = .next t ∧ OnlyBlocks [.spt, .mgt] s t ∧ t.spt = { s.spt with tx := rest } ∧
      (s.mgt.softReset = none → t.mgt = s.mgt) ∧
      ∀ n, s.mgt.softReset = some n → t.mgt = { s.mgt with softReset := some (n - 1) }) ∧
  ∀ (s : State) (e : Event) (rest : List Event), s.jev.queue = e :: rest → s.spt.tx.length < 16 →
    let waits := s.mgt.softReset = none ∧ ∃ f l, s.spt.rx = f :: l ∧ frameDest f = 0 ∧ frameKind f = 0x20
    (waits ∧ s.spt.tx.length = 15 ∧ s.spt.lastContested = .event → exec .eventMoved s = .next s) ∧
    (¬(waits ∧ s.spt.tx.length = 15 ∧ s.spt.lastContested = .event) →
      ∃ t, exec .eventMoved s = .next t ∧ OnlyBlocks [.spt, .jev] s t ∧ t.jev = { s.jev with queue := rest } ∧
        t.spt.rx = s.spt.rx ∧ t.spt.counters = s.spt.counters ∧
        t.spt.tx = s.spt.tx ++ [makeFrame 64 0x22
          ([e.kind.code] ++ beBytes 2 e.source ++ beBytes 6 e.uptime ++ padTo 8 e.detail)] ∧
        (waits ∧ s.spt.tx.length = 15 → t.spt.lastContested = .event) ∧
        (¬(waits ∧ s.spt.tx.length = 15) → t.spt.lastContested = s.spt.lastContested))

/-! ### The classifier (section 1.6) -/

/-- The winner for a frame is the entry of its direction with the lowest number all of whose segments match it. -/
def Obligations.LowestMatchingEntryWins : Prop :=
  ∀ (s : State) (d : Direction) (f : Frame) (e : ClassifierEntry),
    (∀ i x y, s.fcl.table[(i : Fin 32).val] = some x → y ∈ x.segments → y.value.length = y.mask.length) →
    (s.winner d f = some e ↔
      ∃ i : Fin 32, s.fcl.table[i.val] = some e ∧ e.direction = d ∧ (∀ y ∈ e.segments, y.meets f) ∧
        ∀ j : Fin 32, j < i → ∀ x, s.fcl.table[j.val] = some x → ¬(x.direction = d ∧ ∀ y ∈ x.segments, y.meets f))

/-! ### The bay segment (chapters 1 and 2) -/

/-- A field frame that begins is noted with whether it began within a reply deadline. One that ends is held, lost to
overrun, or counted under its first fault. While a reply is awaited, a valid frame of the polled station that began
within the deadline gives the next frame 5 ms, and an invalid frame that began so ends the exchange: its outcome is
applied to the entry, unless the entry was rewritten meanwhile (the model's reading, log 21), and a loan that waited for
it is granted (that LOAN_GRANTED comes last is the model's choice, log 10). A frame still held or being received as the
exchange ends loses its place in the window (the model's reading, log 24), and the moment from which the segment is free
is its choice (log 7). The premise on the loan leaves out a request that waits to be answered. A frame that ends with
none begun counts as begun then (the model's choice, log 8); the due time an INCOMPATIBLE entry holds is its choice too
(log 56), and STATION_JOINED's detail its reading (log 14). -/
def Obligations.FieldFrameReceived : Prop :=
  (∀ s : State, s.driving = false → s.fsm.receiving = none →
    (∀ x d, s.fsm.exchange = some (.poll x) → x.deadline = some d →
      exec .fieldFrameStart s = .next (s.setFsm { s.fsm with receiving := some ⟨decide (s.clock ≤ d)⟩ })) ∧
    (s.fsm.exchange = none →
      exec .fieldFrameStart s = .next (s.setFsm { s.fsm with receiving := some ⟨false⟩ }))) ∧
  ∀ (s : State) (f : Frame) (framing : Bool), s.driving = false →
    s.fsm.lrq = false ∨ s.fsm.loan ≠ .master ∨ s.mgt.params.loanEnable = false →
    let n := f.length
    let c := s.fsm.counters
    let whole := 6 ≤ n ∧ n ≤ 126 ∧ num f 3 1 ≤ 120 ∧ num f 3 1 = n - 6
    let checks := beNat (f.drop (n - 2)) = (crc (f.take (n - 2))).toNat
    let after := fun (x : FieldCounters) =>
      s.setFsm { s.fsm with receiving := none, freeAt := max s.fsm.freeAt s.clock, counters := x }
    let faulty := fun (x : FieldCounters) =>
      (framing = true ∧ x = { c with framingErrors := min (c.framingErrors + 1) 65535 }) ∨
      (framing = false ∧ ¬whole ∧ x = { c with lengthErrors := min (c.lengthErrors + 1) 65535 }) ∨
      (framing = false ∧ whole ∧ ¬checks ∧ x = { c with checkErrors := min (c.checkErrors + 1) 65535 })
    let valid := framing = false ∧ whole ∧ checks
    let held := fun (began : Bool) (exchange : Option Exchange) =>
      (s.fsm.hold = none → exec (.fieldFrameEnd f framing) s = .next (s.setFsm { s.fsm with
        receiving := none, freeAt := max s.fsm.freeAt s.clock, exchange := exchange,
        counters := { c with received := min (c.received + 1) 65535 },
        hold := some { frame := f, inWindow := began, endedAt := s.clock } })) ∧
      (s.fsm.hold ≠ none → exec (.fieldFrameEnd f framing) s = .next (s.setFsm { s.fsm with
        receiving := none, freeAt := max s.fsm.freeAt s.clock, exchange := exchange,
        counters := { c with
          received := min (c.received + 1) 65535, overruns := min (c.overruns + 1) 65535 } }))
    (s.fsm.exchange = none →
      (∀ x, faulty x → exec (.fieldFrameEnd f framing) s = .next (after x)) ∧
      (valid → held ((s.fsm.receiving.map (·.inWindow)).getD false) none)) ∧
    ∀ x d, s.fsm.exchange = some (.poll x) → x.deadline = some d →
      let began := (s.fsm.receiving.map (·.inWindow)).getD (decide (s.clock ≤ d))
      let granted := fun (t : State) =>
        if s.fsm.loan = .granting then
          (t.setFsm { t.fsm with
            loan := .lent, grantedAt := s.ms, recalled := false, overrun := false, recallDue := none }).raise
            .loanGranted 0xFFFF []
        else t
      (valid → held began (if began = true ∧ frameSource f = x.station then
        some (.poll { x with deadline := some (s.clock + 5000) }) else some (.poll x))) ∧
      ∀ y, faulty y →
        (began = false → exec (.fieldFrameEnd f framing) s = .next (after y)) ∧
        (began = true → x.live = false ∨ s.entry x.entry = none → exec (.fieldFrameEnd f framing) s =
          .next (granted (s.setFsm { s.fsm with
            exchange := none, receiving := none, freeAt := max s.fsm.freeAt (s.clock + 120), counters := y,
            hold := s.fsm.hold.map (fun h => { h with inWindow := false }) }))) ∧
        ∀ e, began = true → x.live = true → s.entry x.entry = some e →
          ∃ t, exec (.fieldFrameEnd f framing) s = .next (granted t) ∧ OnlyBlocks [.fsm, .jev] s t ∧
            ExchangeEnds (after y) t x e

/-- A held frame that is no reply, outside the window or from another station than the polled one, is counted as
unsolicited and discarded. A good reply that is no ANNOUNCE refreshes its station's data time; one for a station 1 to
255 goes to the classifier; each counts toward the burst, an ANNOUNCE for such a station too, which changes no entry
(log 44). The last of a burst ends the exchange: its outcome is applied to the entry, unless that was rewritten
meanwhile (log 21), and a loan that waited for it is granted (LOAN_GRANTED last, log 10). What an ANNOUNCE for station 0
and a reply to JOIN_QUERY make of the entry's join is StationsJoin's. During a loan a frame is snooped: one that is no
ANNOUNCE refreshes the data time of a listed station, one for a station 1 to 255 goes to the classifier, and one for
station 0 that is no DELIVERY is counted as unsolicited. Frames that carry role records are left to the statements about
those, and the premise on the loan leaves out a request that waits to be answered. A kind-0x12 frame of fewer than 3
bytes is no ANNOUNCE. STATION_JOINED's detail of a return from SILENT (log 14), that an unsolicited snooped frame
refreshes the data time (log 52) and the moment from which the segment is free (log 7) are the model's reading, and the
due time of an INCOMPATIBLE entry is its choice (log 56). -/
def Obligations.HeldFrameTaken : Prop :=
  let announce := fun (f : Frame) => frameKind f = 0x12 ∧ 3 ≤ (framePayload f).length
  let unanswered := fun (s : State) =>
    s.fsm.lrq = false ∨ s.fsm.loan ≠ .master ∨ s.mgt.params.loanEnable = false
  (∀ (s : State) (h : Held), s.fsm.hold = some h → s.fsm.loan ≠ .lent → unanswered s → s.tks.lockouts = [] →
    (h.inWindow = false ∨ ∃ x, s.fsm.exchange = some (.poll x) ∧ frameSource h.frame ≠ x.station) →
    exec .fieldFrameTaken s = .next (s.setFsm { s.fsm with
      hold := none,
      counters := { s.fsm.counters with unsolicited := min (s.fsm.counters.unsolicited + 1) 65535 } })) ∧
  (∀ (s : State) (h : Held) (x : PollExchange) (e : PollEntry),
    s.fsm.hold = some h → h.inWindow = true → s.fsm.loan ≠ .lent → unanswered s →
    s.fsm.exchange = some (.poll x) → frameSource h.frame = x.station →
    (announce h.frame → frameDest h.frame ≠ 0) → s.entry x.entry = some e → e.station = x.station →
    (∀ k y, s.entry k = some y → y.station = x.station → k = x.entry) →
      let counted := { x with goodReplies := x.goodReplies + 1 }
      let noted := { e with dataTime := some s.ms, reportedFresh := true }
      let after := if announce h.frame then e else noted
      let granted := fun (t : State) =>
        if s.fsm.loan = .granting then
          (t.setFsm { t.fsm with
            loan := .lent, grantedAt := s.ms, recalled := false, overrun := false, recallDue := none }).raise
            .loanGranted 0xFFFF []
        else t
      (x.query = false → frameDest h.frame = 0 → counted.goodReplies < x.burst →
        ∃ t, exec .fieldFrameTaken s = .next t ∧ t.fsm.hold = none ∧ t.fsm.exchange = some (.poll counted) ∧
          t.entry x.entry = some noted ∧ (∀ k, k ≠ x.entry → t.entry k = s.entry k) ∧ t.spt = s.spt ∧ t.mac = s.mac ∧
          t.mtc = s.mtc) ∧
      (s.tks.lockouts = [] → (∀ k, (s.sump k).stale = false) →
        ∀ v,
          (let u := s.setFsm { s.fsm with hold := none, entries := upd s.fsm.entries x.entry (some after) }
            if frameDest h.frame = 0 then v = u else FieldRouted u h.frame v) →
          (x.query = false ∨ announce h.frame →
            (counted.goodReplies < x.burst →
              exec .fieldFrameTaken s = .next (v.setFsm { v.fsm with exchange := some (.poll counted) })) ∧
            (x.burst ≤ counted.goodReplies →
              (x.live = true → ∃ t, exec .fieldFrameTaken s = .next (granted t) ∧ OnlyBlocks [.fsm, .jev] v t ∧
                ExchangeEnds v t counted after) ∧
              (x.live = false → exec .fieldFrameTaken s = .next (granted (v.setFsm { v.fsm with
                exchange := none, freeAt := max s.fsm.freeAt (s.clock + 120),
                receiving := s.fsm.receiving.map (fun _ => { inWindow := false }) }))))) ∧
          (x.query = true → ¬announce h.frame → x.burst ≤ counted.goodReplies → x.live = true →
            ∃ t y, exec .fieldFrameTaken s = .next (granted t) ∧ OnlyBlocks [.fsm, .jev] v t ∧
              t.fsm.exchange = none ∧ t.fsm.counters = v.fsm.counters ∧
              t.fsm.freeAt = max s.fsm.freeAt (s.clock + 120) ∧ (∀ k, k ≠ x.entry → t.entry k = s.entry k) ∧
              t.entry x.entry = some y ∧ y.dataTime = some s.ms ∧ y.reportedFresh = true ∧ y.station = e.station ∧
              y.missCount = 0 ∧ y.due = false))) ∧
  ∀ (s : State) (h : Held), s.fsm.hold = some h → s.fsm.loan = .lent → s.tks.lockouts = [] →
    (∀ k, (s.sump k).stale = false) →
    let c := s.fsm.counters
    let taken := fun (entries : Vector (Option PollEntry) 32) =>
      (frameDest h.frame = 0 → frameKind h.frame ≠ 0x40 → exec .fieldFrameTaken s = .next (s.setFsm { s.fsm with
        hold := none, entries := entries, counters := { c with unsolicited := min (c.unsolicited + 1) 65535 } })) ∧
      (frameDest h.frame ≠ 0 →
        ∀ v, FieldRouted (s.setFsm { s.fsm with hold := none, entries := entries }) h.frame v →
          exec .fieldFrameTaken s = .next v)
    (announce h.frame ∨ (∀ k y, s.entry k = some y → y.station ≠ frameSource h.frame) → taken s.fsm.entries) ∧
    ∀ e x, ¬announce h.frame → s.entry e = some x → x.station = frameSource h.frame →
      (∀ k y, s.entry k = some y → y.station = frameSource h.frame → k = e) →
        taken (upd s.fsm.entries e (some { x with dataTime := some s.ms, reportedFresh := true }))

/-- A free segment is granted to the head of the forward queue or to the due entry with the earliest due time, the
lowest-numbered of equals, in turn when both wait. A frame that has waited 5 s is no candidate, even before its removal
(the model's reading, log 26). An exchange begins with the entry's own frame. That a grant which was not contested
counts as the last one is the model's choice (log 60). -/
def Obligations.SegmentGranted : Prop :=
  (∀ (s : State) (e : Fin 32) (x : PollEntry),
    s.pollCandidate = some (e, x) ↔
      s.entry e = some x ∧ x.due = true ∧
        ∀ k y, s.entry k = some y → y.due = true → x.dueTime < y.dueTime ∨ (x.dueTime = y.dueTime ∧ e ≤ k)) ∧
  ∀ s : State, s.fsm.exchange = none → s.fsm.receiving = none → s.fsm.freeAt ≤ s.clock → s.fsm.loan = .master →
    (∀ f rest, s.fsm.queue = f :: rest → s.ms - f.joined < 5000 →
      (s.pollCandidate = none ∨ s.fsm.lastGrant = .poll) →
        exec .segmentGrant s = .next (s.setFsm { s.fsm with
          queue := rest, exchange := some .forward, lineOut := some f.frame, lastGrant := .forwardQueue })) ∧
    ∀ e x, s.pollCandidate = some (e, x) →
      (s.fsm.queue = [] ∨ (∃ f rest, s.fsm.queue = f :: rest ∧ 5000 ≤ s.ms - f.joined) ∨
        s.fsm.lastGrant = .forwardQueue) →
        ∃ t y, exec .segmentGrant s = .next t ∧ OnlyBlocks [.fsm] s t ∧
          t.fsm = { s.fsm with
            entries := upd s.fsm.entries e (some { x with due := false }), exchange := some (.poll y),
            lineOut := t.fsm.lineOut, lastGrant := .poll } ∧
          y.entry = e ∧ y.station = x.station ∧ y.start = s.ms ∧ y.deadline = none ∧ y.goodReplies = 0 ∧
          y.live = true ∧
          (x.state = .active ∨ x.state = .silent → y.query = false ∧
            t.fsm.lineOut = some (makeFrame x.station 0x10 [BitVec.ofNat 8 (x.format.getD 0)]) ∧
            (x.format.getD 0 = 0 → y.burst = 1) ∧ (x.format = some 1 → y.burst = 4) ∧
            (x.format = some 2 → y.burst = 8)) ∧
          (x.state = .absent ∨ x.state = .joining → y.query = true ∧ y.burst = 1 ∧
            t.fsm.lineOut = some (makeFrame x.station 0x11 [0])) ∧
          (x.state = .acking → y.query = true ∧ y.burst = 1 ∧
            t.fsm.lineOut = some (makeFrame x.station 0x11 [1]))

/-- A forwarded frame that has been sent frees the segment, and a granted loan request that waited for it is lent at
once. A poll frame that has been sent opens the reply window of 20 ms. An entry whose due time is reached becomes due,
unless it is INCOMPATIBLE or being polled. Frames that have waited 5 s leave the forward queue, each counted as a
forward drop. -/
def Obligations.SegmentFramesSent : Prop :=
  (∀ s : State, s.fsm.exchange = some .forward →
    (s.fsm.loan ≠ .granting → exec .forwardFrameSent s =
      .next (s.setFsm { s.fsm with exchange := none, freeAt := s.clock + 120 })) ∧
    (s.fsm.loan = .granting → exec .forwardFrameSent s =
      .next ((s.setFsm { s.fsm with
        exchange := none, freeAt := s.clock + 120, loan := .lent, grantedAt := s.ms, recalled := false,
        overrun := false, recallDue := none }).raise .loanGranted 0xFFFF []))) ∧
  (∀ (s : State) (x : PollExchange), s.fsm.exchange = some (.poll x) → x.deadline = none →
    exec .pollFrameSent s = .next (s.setFsm { s.fsm with
      exchange := some (.poll { x with deadline := some (s.clock + 20000) }), freeAt := s.clock + 120 })) ∧
  (∀ (s : State) (e : Fin 32) (x : PollEntry), s.entry e = some x → x.state ≠ .incompatible → x.dueTime ≤ s.ms →
    (∀ y, s.fsm.exchange = some (.poll y) → y.entry ≠ e) →
      exec (.entryDue e) s = .next (s.setEntry e (some { x with due := true }))) ∧
  ∀ s : State,
    let left := s.fsm.queue.filter (fun f => decide (s.ms - f.joined < 5000))
    let drops := min (s.fsm.counters.forwardDrops + (s.fsm.queue.length - left.length)) 65535
    exec .forwardFrameAged s = .next (s.setFsm { s.fsm with
      queue := left, counters := { s.fsm.counters with forwardDrops := drops } })

/-- A reply window that runs out with no frame in hand ends the exchange. With no good reply the entry counts a miss: an
ACTIVE entry goes SILENT at the third, a JOINING or ACKING one goes back to ABSENT at the third, and an ABSENT or SILENT
one stays. With a good reply its misses are cleared and a SILENT entry is ACTIVE. The entry is next due one interval of
its state after the exchange began: its own while ACTIVE, 5 s while SILENT, 500 ms otherwise. The segment is free 120 us
after the exchange has ended, also where the line has been idle longer (the model's choice, log 7). That a frame in hand
holds the timeout off, and one still in hand as an exchange ends loses its place in the window, is the model's reading
(log 24), and so is STATION_JOINED's detail (log 14); that an INCOMPATIBLE entry holds such a due time is its choice
(log 56). The premises leave out a loan request and an entry rewritten meanwhile. -/
def Obligations.ReplyWindowRunsOut : Prop :=
  ∀ (s : State) (x : PollExchange) (e : PollEntry) (d : Nat),
    s.fsm.exchange = some (.poll x) → x.deadline = some d → d ≤ s.clock → s.replyInHand = false → x.live = true →
    s.entry x.entry = some e → s.fsm.loan = .master → s.fsm.lrq = false →
      ∃ t, exec .replyWindowTimeout s = .next t ∧ OnlyBlocks [.fsm, .jev] s t ∧ ExchangeEnds s t x e

/-- The join handshake, at a good reply from the polled station for station 0. To JOIN_QUERY: an ANNOUNCE takes an
ABSENT entry to JOINING, the third with one caps to ACKING, the third acknowledged there to ACTIVE at the highest format
that caps and allowed formats share, or to INCOMPATIBLE; other caps start afresh in JOINING; a second reply that is no
ANNOUNCE joins a legacy station at format 0, or makes it INCOMPATIBLE, and one in ACKING goes back to JOINING. To POLL: an
ANNOUNCE takes ACTIVE or SILENT back to JOINING, and a further one in its burst changes no entry. A legacy reply to
JOIN_QUERY for a station 1 to 255, whose join is the same, and a kind-0x12 frame of fewer than 3 bytes are left out, and
the premises leave out a loan, a loan request and an entry rewritten meanwhile. That an ANNOUNCE in ACKING keeps the
station type is the model's reading (log 39), the echo byte's values that of log 32, the freshness remembered that of
log 31, STATION_JOINED's details those of log 14; the moment from which the segment is free, 120 us after the exchange's
end also where the line has been idle longer (log 7), the detail of a legacy STATION_INCOMPATIBLE (log 45) and the due
time an INCOMPATIBLE entry holds (log 56) are its choice. -/
def Obligations.StationsJoin : Prop :=
  ∀ (s : State) (h : Held) (x : PollExchange) (e : PollEntry),
    s.fsm.hold = some h → h.inWindow = true → s.fsm.loan = .master → s.fsm.lrq = false → s.tks.lockouts = [] →
    (∀ k, (s.sump k).stale = false) → s.fsm.exchange = some (.poll x) → x.live = true →
    frameSource h.frame = x.station → frameDest h.frame = 0 → s.entry x.entry = some e → e.station = x.station →
    (∀ k y, s.entry k = some y → y.station = x.station → k = x.entry) →
    let step := fun (ended : Bool) (y : PollEntry) (jev : Jev) =>
      ∃ t, exec .fieldFrameTaken s = .next t ∧ OnlyBlocks [.fsm, .jev] s t ∧ t.fsm.hold = none ∧
        t.fsm.counters = s.fsm.counters ∧ (∀ k, t.entry k = if k = x.entry then some y else s.entry k) ∧
        t.jev = jev ∧
        if ended then t.fsm.exchange = none ∧ t.fsm.freeAt = max s.fsm.freeAt (s.clock + 120)
        else t.fsm.exchange = some (.poll { x with goodReplies := x.goodReplies + 1 }) ∧
          t.fsm.freeAt = s.fsm.freeAt
    let ends := fun (y : PollEntry) (jev : Jev) => step true { y with missCount := 0, due := false } jev
    let next := x.start + 500
    (∀ caps type echo more, frameKind h.frame = 0x12 → framePayload h.frame = caps :: type :: echo :: more →
      let afresh := { e with
        state := .joining, caps := some caps, stationType := some type, matchCount := 1, ackCount := 0,
        legacyCount := 0 }
      (x.query = true → x.burst ≤ x.goodReplies + 1 →
        (e.state = .absent ∨ ((e.state = .joining ∨ e.state = .acking) ∧ e.caps ≠ some caps) →
          ends { afresh with dueTime := next } s.jev) ∧
        (e.state = .joining → e.caps = some caps →
          let y := { e with
            stationType := some type, matchCount := e.matchCount + 1, legacyCount := 0, dueTime := next }
          (e.matchCount ≠ 2 → ends y s.jev) ∧
          (e.matchCount = 2 → ends { y with state := .acking, ackCount := 0 } s.jev)) ∧
        (e.state = .acking → e.caps = some caps →
          (echo = 0 → ends { e with ackCount := 0, dueTime := next } s.jev) ∧
          (echo ≠ 0 → e.ackCount ≠ 2 → ends { e with ackCount := e.ackCount + 1, dueTime := next } s.jev) ∧
          (echo ≠ 0 → e.ackCount = 2 →
            (∀ f, f ≤ 2 → caps.getLsbD f = true → e.formats.getLsbD f = true →
              (∀ g, f < g → g ≤ 2 → ¬(caps.getLsbD g = true ∧ e.formats.getLsbD g = true)) →
                ends { e with
                    state := .active, format := some f, legacy := false, matchCount := 0, ackCount := 0,
                    legacyCount := 0, dueTime := x.start + e.interval }
                  (s.raise .stationJoined x.entry.val [BitVec.ofNat 8 f, e.stationType.getD 0]).jev) ∧
            ((∀ g, g ≤ 2 → ¬(caps.getLsbD g = true ∧ e.formats.getLsbD g = true)) →
              ends { e with state := .incompatible, ackCount := 3, dueTime := next }
                (s.raise .stationIncompatible x.entry.val [caps]).jev)))) ∧
      (x.query = false → e.state = .active ∨ e.state = .silent →
        let y := { afresh with format := none, legacy := false, missCount := 0 }
        (x.goodReplies + 1 < x.burst → step false y s.jev) ∧
        (x.burst ≤ x.goodReplies + 1 → ends { y with dueTime := next } s.jev)) ∧
      (x.query = false → e.state = .joining → x.goodReplies + 1 < x.burst → step false e s.jev)) ∧
    (frameKind h.frame ≠ 0x12 → x.query = true → x.burst ≤ x.goodReplies + 1 →
      let y := { e with dataTime := some s.ms, reportedFresh := true, dueTime := next }
      (e.state = .absent ∨ e.state = .joining →
        (e.legacyCount ≠ 1 → ends { y with legacyCount := e.legacyCount + 1 } s.jev) ∧
        (e.legacyCount = 1 → e.formats.getLsbD 0 = true →
          ends { y with
              state := .active, format := some 0, legacy := true, matchCount := 0, ackCount := 0, legacyCount := 0,
              dueTime := x.start + e.interval }
            (s.raise .stationJoined x.entry.val [0, 1]).jev) ∧
        (e.legacyCount = 1 → e.formats.getLsbD 0 = false →
          ends { y with state := .incompatible, legacyCount := 2 }
            (s.raise .stationIncompatible x.entry.val [e.caps.getD 0]).jev)) ∧
      (e.state = .acking →
        ends { y with state := .joining, matchCount := 0, ackCount := 0, legacyCount := 1 } s.jev))

/-- A station whose data becomes stale makes the gauge of every tank it serves STALE and, while the part is
COMMISSIONED, every sump it serves stale. -/
def Obligations.StationDataGoesStale : Prop :=
  ∀ (s : State) (e : Fin 32) (x : PollEntry), s.entry e = some x → x.reportedFresh = true →
    (∀ d, x.dataTime = some d → x.staleness * 1000 < s.ms - d) →
      ∃ t, exec (.stationDataStale e) s = .next t ∧
        (∀ k, t.entry k = if k = e then some { x with reportedFresh := false } else s.entry k) ∧
        (∀ k c, (s.tank k).config = some c →
          (t.tank k).gauge = if c.gauge = x.station then .stale else (s.tank k).gauge) ∧
        ∀ k, s.mgt.commission = .commissioned → (s.sump k).config.station = x.station → x.station ≠ 0 →
          (t.sump k).stale = true

/-! ### Loans (section 2.5) -/

/-- A loan request while MASTER is granted at once when loan enable is on, every critical entry is ACTIVE with fresh
data and no exchange is in progress; with an exchange in progress the loan is GRANTING; otherwise only the line's level
changes. While LENT, the loan limit and an ACTIVE entry's recall age, counted from the later of its data time and the
grant, each raise the recall and start its timeout; a recall that is set is not raised again. The timeout sets the
overrun flag and raises LOAN_OVERRUN once in a loan; LRQ falling first cancels it; the next grant clears the flag. That
the command changes nothing with no timeout running is the model's choice (log 2), as is the timeout's length, taken as
the recall is raised (log 55), a grant that does not wait for an answer still being sent (log 61) and the detail in
seconds its reading (log 14). -/
def Obligations.LoanGrantedAndRecalled : Prop :=
  (∀ s : State, s.fsm.loan = .master →
    let ready := s.mgt.params.loanEnable = true ∧
      ∀ k x, s.entry k = some x → x.critical = true → x.state = .active ∧ x.isFresh s.ms = true
    (¬ready → exec .lrqRise s = .next (s.setFsm { s.fsm with lrq := true })) ∧
    (ready → s.fsm.exchange ≠ none → exec .lrqRise s = .next (s.setFsm { s.fsm with lrq := true, loan := .granting })) ∧
    (ready → s.fsm.exchange = none → exec .lrqRise s =
      .next ((s.setFsm { s.fsm with
        lrq := true, loan := .lent, grantedAt := s.ms, recalled := false, overrun := false,
        recallDue := none }).raise .loanGranted 0xFFFF []))) ∧
  (∀ s : State, s.fsm.loan = .lent →
    let raised := if s.fsm.recalled then s else s.setFsm { s.fsm with
      recalled := true, recallDue := some (s.ms + s.mgt.params.recallTimeout * 1000) }
    (s.mgt.params.loanLimit ≠ 0 → s.mgt.params.loanLimit * 1000 ≤ s.ms - s.fsm.grantedAt →
      exec .loanLimitReached s = .next raised) ∧
    ∀ e x, s.entry e = some x → x.state = .active → x.recallAge ≠ 0 →
      (∀ d, x.dataTime = some d → x.recallAge * 1000 ≤ s.ms - max d s.fsm.grantedAt) →
      (x.dataTime = none → x.recallAge * 1000 ≤ s.ms - s.fsm.grantedAt) →
        exec (.recallAgeReached e) s = .next raised) ∧
  (∀ (s : State) (d : Nat), s.fsm.loan = .lent → s.fsm.recallDue = some d → d ≤ s.ms →
    exec .recallTimeout s = .next ((s.setFsm { s.fsm with overrun := true, recallDue := none }).raise .loanOverrun
      0xFFFF (beBytes 4 ((s.ms - s.fsm.grantedAt) / 1000)))) ∧
  (∀ s : State, s.fsm.recallDue = none → exec .recallTimeout s = .next s) ∧
  (∀ (c : Instr) (s t : State), s.fsm.loan = .lent → s.fsm.recalled = true → s.fsm.recallDue = none →
    exec c s = .next t → t.fsm.loan = .lent → t.fsm.recallDue = none) ∧
  (∀ s t : State, s.fsm.loan = .lent → exec .lrqFall s = .next t → t.fsm.loan = .master ∧ t.fsm.recallDue = none) ∧
  ∀ (c : Instr) (s t : State), s.fsm.loan ≠ .lent → exec c s = .next t → t.fsm.loan = .lent → t.fsm.overrun = false

/-- LRQ falling ends a loan: MASTER again, the recall cleared, LOAN_ENDED raised, and every open delivery ended with
LOAN_ENDED. While GRANTING it only withdraws the request. The details' layout (log 14) and that an answer still
waiting is dropped (log 19) are the model's reading. -/
def Obligations.LoanEnds : Prop :=
  (∀ s : State, s.fsm.loan = .master → exec .lrqFall s = .next (s.setFsm { s.fsm with lrq := false })) ∧
  (∀ s : State, s.fsm.loan = .granting →
    exec .lrqFall s = .next (s.setFsm { s.fsm with lrq := false, loan := .master })) ∧
  ∀ s : State, WorkReserved s → s.fsm.loan = .lent →
    ∃ t, exec .lrqFall s = .next t ∧ OnlyBlocks [.fsm, .jev, .tks] s t ∧
      t.fsm = { s.fsm with lrq := false, loan := .master, recalled := false, recallDue := none, answer := none } ∧
      (∀ k, (t.tank k).delivery = none) ∧ t.jev.journal.length = s.jev.journal.length + s.openDeliveries ∧
      (s.openDeliveries = 0 → t.tks = s.tks ∧ t.jev = (s.raise .loanEnded 0xFFFF
        (beBytes 4 ((s.ms - s.fsm.grantedAt) / 1000) ++ flagByte s.fsm.overrun)).jev) ∧
      ∀ o x, s.order o = some x → x.state = .active →
        ∃ y n, t.order o = some y ∧ y.state = .ended ∧ y.endCause = some (.ended .loanEnded) ∧ y.record = some n ∧
          y.endTime = s.stamp

/-- A REQUEST for a PENDING order that passes the checks of a delivery makes the order ACTIVE, permitted the lesser of
what was ordered and the ullage, reserves a journal place and supplies an ACCEPTED answer with the valve open. An
answer begins within 5 ms of the frame it answers, once the line is idle; it is dropped when the 5 ms have run or a
character is being received, and waits while the part drives the line or its own last frame ended less than 3
character times ago (the model's reading, log 19). It drives the line for its characters (log 7). DELIVERY_START's
source is the order reference (log 14). -/
def Obligations.DeliveriesAreAnswered : Prop :=
  (∀ (s : State) (h : Held) (o : Fin 16) (x : Order) (c : TankConfig) (v l : Nat),
    WorkReserved s → s.fsm.loan = .lent → s.fsm.hold = some h → s.tks.lockouts = [] →
    frameDest h.frame = 0 → frameKind h.frame = 0x40 →
    framePayload h.frame = [1] ++ beBytes 2 x.reference ++ beBytes 4 x.tanker ++
      [BitVec.ofNat 8 x.tank.val, BitVec.ofNat 8 x.product.val] →
    (∀ k y, s.entry k = some y → y.station ≠ frameSource h.frame) →
    s.mgt.commission = .commissioned → s.order o = some x → x.state = .pending →
    1 ≤ x.reference → x.reference ≤ 65535 → 1 ≤ x.tanker → x.tanker ≤ 4294967295 →
    (s.tank x.tank).config = some c → c.product = x.product → (s.tank x.tank).gauge = .valid →
    (s.tank x.tank).observed = some v → (s.tank x.tank).lastLevel = some l → l < c.highHigh →
    s.ssd.level ≠ .isolate → (s.tank x.tank).delivery = none →
    JournalRoom s.jev → v < c.safeFill →
      let permitted := min x.ordered (c.safeFill - v)
      ∃ t, exec .fieldFrameTaken s = .next t ∧ OnlyBlocks [.fsm, .tks, .jev] s t ∧
        t.order o = some { x with
          state := .active, permitted := permitted, gross := 0, net := 0, posted := 0, lastTemp := 0,
          startTime := s.stamp, startValid := s.mgt.timeValid, endTime := 0, endCause := none, record := none } ∧
        (∀ j, j ≠ o → t.order j = s.order j) ∧
        t.tank x.tank = { s.tank x.tank with delivery := some x.reference } ∧
        (∀ j, j ≠ x.tank → t.tank j = s.tank j) ∧
        t.jev = (State.raise (s.setJev { s.jev with reserved := s.jev.reserved + 1 }) .deliveryStart x.reference
          ([BitVec.ofNat 8 x.tank.val] ++ beBytes 4 permitted)).jev ∧
        t.fsm = { s.fsm with
          hold := none,
          answer := some {
            endedAt := h.endedAt,
            frame := makeFrame (frameSource h.frame) 0x41
              ([1] ++ beBytes 2 x.reference ++ [1] ++ beBytes 4 permitted ++ beBytes 4 0 ++ [0]) } }) ∧
  ∀ (s : State) (a : Answer), s.fsm.loan = .lent → s.fsm.answer = some a →
    (s.fsm.receiving = none → s.clock ≤ a.endedAt + 5000 → s.driving = true ∨ s.clock < s.fsm.freeAt →
      exec .deliveryAnswerSend s = .next s) ∧
    (s.fsm.receiving = none → s.clock ≤ a.endedAt + 5000 → s.driving = false → s.fsm.freeAt ≤ s.clock →
      exec .deliveryAnswerSend s =
      .next (s.setFsm { s.fsm with
        answer := none, lineOut := some a.frame, drivingUntil := s.clock + a.frame.length * 40,
        freeAt := s.clock + a.frame.length * 40 + 120 })) ∧
    (s.fsm.receiving ≠ none ∨ a.endedAt + 5000 < s.clock →
      exec .deliveryAnswerSend s = .next (s.setFsm { s.fsm with answer := none }))

/-- RUNNING and END frames. For an ACTIVE order of the tanker they report gross and temperature: the net is the gross
corrected, the book takes what it grew by, and at the permitted volume, or by an END, the delivery ends with its record;
the answer carries the order as it then stands. A report of less gross than before is answered BAD_GROSS and not used,
and an END still ends. A PENDING order is answered NOT_STARTED, an ENDED one ENDED, another tanker MISMATCH, and a
reference of no order NO_ORDER. The figures of those answers and the END that is BAD_GROSS are the model's reading
(log 16), and the event's source and detail that of log 14. -/
def Obligations.DeliveryProgress : Prop :=
  ∀ (s : State) (h : Held) (phase : Byte) (reference tanker gross : Nat) (temp : Int) (more : List Byte),
    WorkReserved s → s.fsm.loan = .lent → s.fsm.hold = some h → s.tks.lockouts = [] → frameDest h.frame = 0 →
    frameKind h.frame = 0x40 → phase = 2 ∨ phase = 3 →
    framePayload h.frame =
      [phase] ++ beBytes 2 reference ++ beBytes 4 tanker ++ beBytes 4 gross ++ beBytesInt 2 temp ++ more →
    reference ≤ 65535 → 1 ≤ tanker → tanker ≤ 4294967295 → gross ≤ 4000000000 → -32768 ≤ temp → temp ≤ 32767 →
    (∀ k y, s.entry k = some y → y.station ≠ frameSource h.frame) → s.mgt.commission = .commissioned →
    let answers := fun (t : State) (body : List Byte) => t.fsm.hold = none ∧ t.fsm.answer = some {
      endedAt := h.endedAt, frame := makeFrame (frameSource h.frame) 0x41 body }
    let stays := fun (body : List Byte) => exec .fieldFrameTaken s = .next (s.setFsm { s.fsm with
      hold := none,
      answer := some { endedAt := h.endedAt, frame := makeFrame (frameSource h.frame) 0x41 body } })
    ((∀ o y, s.order o = some y → y.reference ≠ reference) →
      stays ([18] ++ beBytes 2 reference ++ [0] ++ beBytes 4 0 ++ beBytes 4 0 ++ [0])) ∧
    ∀ o x, s.order o = some x → x.reference = reference →
      let body := fun (t : State) (y : Order) (result : Byte) => [result] ++ beBytes 2 reference ++
        flagByte (t.inletValve x.tank) ++ beBytes 4 y.permitted ++ beBytes 4 y.net ++ [answerEndCode y.endCause]
      let ended := fun (t : State) (y : Order) (cause : DeliveryEnd) =>
        (∀ j, t.order j = if j = o then some { y with
          state := .ended, endTime := s.stamp, endCause := some (.ended cause),
          record := some s.jev.nextNumber } else s.order j) ∧
        (t.tank x.tank).delivery = none ∧
        t.jev.journal = s.jev.journal ++ [.delivery {
          number := s.jev.nextNumber, reference := reference, tanker := y.tanker, tank := y.tank,
          product := y.product, permitted := y.permitted, gross := y.gross, net := y.net, lastTemp := y.lastTemp,
          startTime := y.startTime, endTime := s.stamp, timeValid := y.startValid && s.mgt.timeValid,
          endCause := cause }] ∧
        t.jev.nextNumber = s.jev.nextNumber + 1 ∧ t.jev.reserved = s.jev.reserved - 1
      (x.tanker ≠ tanker → stays (body s x 19)) ∧
      (x.tanker = tanker →
        (x.state = .pending → stays (body s x 26)) ∧
        (∀ c, x.state = .ended → x.endCause = some (.ended c) → stays (body s x 3)) ∧
        (x.state = .active → gross < x.gross →
          (phase = 2 → stays (body s x 4)) ∧
          (phase = 3 → ∃ t, exec .fieldFrameTaken s = .next t ∧ OnlyBlocks [.fsm, .tks, .jev] s t ∧
            ended t x .tankerEnd ∧ (t.tank x.tank).book = (s.tank x.tank).book ∧
            answers t (body t { x with endCause := some (.ended .tankerEnd) } 4))) ∧
        ∀ m, x.state = .active → x.gross ≤ gross → s.product x.product = some m →
          let heat := max (-500) (min 800 temp)
          let net := min 4000000000 ((2 * (gross * vcf m.beta heat) + 1000000) / 2000000)
          let y := { x with gross := gross, net := net, posted := net, lastTemp := heat }
          ∃ t, exec .fieldFrameTaken s = .next t ∧
            (t.tank x.tank).book = (s.tank x.tank).book.map
              (fun v => max (-4294967296) (min 4294967295 (v + ((net : Int) - x.posted)))) ∧
            (∀ j, j ≠ x.tank → t.tank j = s.tank j) ∧ t.mac = s.mac ∧ t.spt = s.spt ∧
            (phase = 2 → gross < x.permitted →
              (∀ j, t.order j = if j = o then some y else s.order j) ∧
              (t.tank x.tank).delivery = some reference ∧ t.jev.journal = s.jev.journal ∧
              answers t (body t y 2)) ∧
            (x.permitted ≤ gross → ended t y .permitReached ∧
              answers t (body t { y with endCause := some (.ended .permitReached) } 3)) ∧
            (phase = 3 → gross < x.permitted → ended t y .tankerEnd ∧
              answers t (body t { y with endCause := some (.ended .tankerEnd) } 3)))

/-! ### Meter channels (chapter 3) -/

/-- A raw level that differs from the filtered level starts or continues the filter's timing, and one that equals it
abandons the timing, for a channel's input and for the prover's. A filtered edge that makes no count moves the
filtered level alone. A rewritten filter time applies to a level still being filtered: from then on it is ready at the
new time after it was first seen, and timings that the write makes due fall at one sample (the model's reading of that
sample, log 23). -/
def Obligations.InputsAreFiltered : Prop :=
  (∀ (s : State) (k : Fin 8) (i : MeterInput) (high : Bool),
    let x := (s.channel k).input i
    exec (.meterRawInputChange k i high) s = .next (s.setChannel k ((s.channel k).setInput i { x with
      raw := high, since := if high = x.level then none else some (x.since.getD s.clock) }))) ∧
  (∀ (s : State) (high : Bool),
    exec (.proverRawInputChange (.raw high)) s = .next (s.setMtc { s.mtc with prover := { s.mtc.prover with
      raw := high,
      since := if high = s.mtc.prover.level then none else some (s.mtc.prover.since.getD s.clock) } })) ∧
  (∀ (s : State) (t0 : Nat), s.mtc.prover.since = some t0 → t0 + 20 ≤ s.clock → s.mtc.prover.level = true →
    exec (.proverRawInputChange .filteredFall) s =
      .next (s.setMtc { s.mtc with prover := { s.mtc.prover with level := false, since := none } })) ∧
  (∀ (s : State) (k : Fin 8) (i : MeterInput) (t0 : Nat),
    let x := s.channel k
    (x.input i).since = some t0 → t0 + x.config.glitch ≤ s.clock →
    (x.config.mode = .single ∧ (i = .b ∨ (x.input i).level = true) ∨
      x.config.mode = .double ∧ i = .b ∧ x.inputA.since ≠ some t0) →
      exec (.filteredLevelChange k i) s = .next (s.setChannel k
        (x.setInput i { x.input i with level := !(x.input i).level, since := none }))) ∧
  ∀ (x : Input) (old new clock : Nat),
    let y := x.refilter old new clock
    y.raw = x.raw ∧ y.level = x.level ∧ (x.since = none → y.since = none) ∧
      ∀ t0, x.since = some t0 → clock ≤ t0 + old →
        (∀ m, clock ≤ m → (y.ready new m = true ↔ t0 + new ≤ m)) ∧
        ∀ z t1, Input.since z = some t1 → clock ≤ t1 + old → t0 + new ≤ clock → t1 + new ≤ clock →
          (z.refilter old new clock).since = y.since

/-- A count changes the channel count, the totaliser and the window count by one in its direction; the direction is the
mode's table, turned by the invert flag. With no open context it changes the creep accumulator too: below the creep limit
nothing else; at the limit the accumulator is cleared, UNAUTHORISED_FLOW is in the cause set and the bay is shut. With an
open context, STOPPING restarts the quiet period of its settle, and FAST or SLOW takes the stop check, which stops the
point at its limit, and in FAST the slow-down check. -/
def Obligations.CountTaken : Prop :=
  ∀ (s : State) (k : Fin 8) (i : MeterInput) (t0 : Nat) (forward : Bool),
    let x := s.channel k
    let y := x.input i
    let other := (x.input (match i with | .a => .b | .b => .a)).level
    let counts := (x.config.mode = .single → i = .a ∧ y.level = false) ∧ (x.config.mode = .double → i = .a)
    let alone := x.config.mode = .single ∨ x.inputA.since ≠ x.inputB.since
    let table := x.config.mode = .single ∨ (i = .a ∧ y.level = other) ∨ (i = .b ∧ y.level ≠ other)
    y.since = some t0 → t0 + x.config.glitch ≤ s.clock → counts → alone →
    (forward = true ↔ (table ↔ x.config.invert = false)) →
      let z := { x.setInput i { y with level := !y.level, since := none } with
        count := if forward then x.count + 1 else x.count - 1,
        totaliser := if forward then x.totaliser + 1 else x.totaliser - 1,
        window := if forward then x.window + 1 else x.window - 1 }
      let creep := if forward then x.creep + 1 else x.creep - 1
      let raises := forward = true ∧ s.mgt.commission = .commissioned ∧ x.config.creepLimit ≠ 0 ∧
        x.config.creepLimit ≤ creep
      ((s.point k).context = none → ¬raises →
        exec (.meterCount k i) s = .next (s.setChannel k { z with creep := creep })) ∧
      ((s.point k).context = none → raises → ∃ t, exec (.meterCount k i) s = .next t ∧
        t.channel k = { z with creep := 0 } ∧ (∀ j, j ≠ k → t.channel j = s.channel j) ∧
        (s.cause (.unauthorisedFlow k) = none →
          t.cause (.unauthorisedFlow k) = some { active := false, level := .bayStop }) ∧
        (∀ e, s.cause (.unauthorisedFlow k) = some e → e.level ≠ .normal →
          t.cause (.unauthorisedFlow k) = some e) ∧
        (∀ c, c ≠ .unauthorisedFlow k → t.cause c = s.cause c) ∧
        (LevelIsHighest s → LevelIsHighest t ∧ (t.cause (.unauthorisedFlow k)).isSome = true ∧
          ((∀ e, s.cause (.unauthorisedFlow k) = some e → e.level ≠ .normal) → 1 ≤ t.ssd.level.rank))) ∧
      ∀ c, (s.point k).context = some c →
        let u := s.setChannel k z
        ((s.point k).state = .stopping → exec (.meterCount k i) s =
          .next (u.setPoint k { s.point k with context := some { c with quietFrom := s.clock } })) ∧
        ((s.point k).state = .authorised → exec (.meterCount k i) s = .next u) ∧
        ∀ p m, (s.point k).state.flowing = true → (s.point k).config = some p → s.product p.product = some m →
          let n := (u.figures k c).net
          let stops := c.limit ≤ n + p.stopLead
          let slows := (s.point k).state = .fast ∧ c.limit ≤ n + m.slowDown
          ∃ t d, exec (.meterCount k i) s = .next t ∧ OnlyBlocks [.mtc, .dpt, .fsm] s t ∧ t.mtc = u.mtc ∧
            (∀ q, q ≠ k → t.point q = s.point q) ∧ (∀ e, t.entry e = s.entry e) ∧ (t.point k).context = some d ∧
            d.lastCount = s.ms ∧ d.limit = c.limit ∧ d.posted = c.posted ∧
            (stops → (t.point k).state = .stopping ∧ d.endCause = some .limitReached ∧ d.stoppingAt = s.clock ∧
              d.quietFrom = s.clock) ∧
            (¬stops → d.endCause = c.endCause ∧
              (t.point k).state = if slows then .slow else (s.point k).state)

/-- Edges of both inputs at one sample make a phase error in DOUBLE and QUAD: both levels follow, the counter rises,
and an open context counts it, reporting the sixteenth. A rise of the prover's filtered level captures the armed
channel's count into an empty record, and marks a full one overrun. That edges at one sample are edges timed from
one moment is the model's choice (log 23), and the events' details its reading (log 14). -/
def Obligations.PhaseErrorsAndCaptures : Prop :=
  (∀ (s : State) (k : Fin 8) (t0 : Nat),
    let x := s.channel k
    x.config.mode ≠ .single → x.inputA.since = some t0 → x.inputB.since = some t0 →
    t0 + x.config.glitch ≤ s.clock →
      let u := s.setChannel k { x with
        inputA := { x.inputA with level := !x.inputA.level, since := none },
        inputB := { x.inputB with level := !x.inputB.level, since := none },
        phaseErrors := min (x.phaseErrors + 1) 65535 }
      ((s.point k).context = none → exec (.meterPhaseError k) s = .next u) ∧
      ∀ c, (s.point k).context = some c →
        let v := u.setPoint k { s.point k with
          context := some { c with phaseErrors := min (c.phaseErrors + 1) 65535 } }
        exec (.meterPhaseError k) s =
          .next (if c.phaseErrors = 15 then v.raise .phaseErrors k.val [BitVec.ofNat 8 k.val] else v)) ∧
  ∀ (s : State) (t0 : Nat), s.mtc.prover.since = some t0 → t0 + 20 ≤ s.clock → s.mtc.prover.level = false →
    let m := { s.mtc with prover := { s.mtc.prover with level := true, since := none } }
    (s.mtc.armed = none → exec .proverEdge s = .next (s.setMtc m)) ∧
    ∀ c, s.mtc.armed = some c →
      (s.mtc.capture = none → exec .proverEdge s = .next ((s.setMtc { m with
        capture := some { channel := c, value := (s.channel c).count, uptime := s.uptime, overrun := false } }).raise
          .proverCapture c.val (beBytes 4 (s.channel c).count.toNat))) ∧
      ∀ r, s.mtc.capture = some r → exec .proverEdge s =
        .next (s.setMtc { m with capture := some { r with overrun := true } })

/-- A rate window that closes at a point where nothing flows gives the window count, the flow rate and the reverse
flag, and raises REVERSE_FLOW when the flag sets; a creep window boundary clears every creep accumulator. A window that
closes at a flowing point posts its net: the tank's book falls by the change, held in its range, the account's used
amount for the product rises by it, and the posted net is the net. Then the first of OVERSPEED (a second window in a row
above the max flow), NO_FLOW and METER_FAULT (16 phase errors) that holds ends the point's transaction. What a fall of
the net does to the committed amounts is the model's reading (log 40). -/
def Obligations.WindowsClose : Prop :=
  (∀ (s : State) (k : Fin 8),
    let x := s.channel k
    x.windowDue ≤ s.ms → (s.point k).state.flowing = false → s.tks.lockouts = [] →
      let t := s.setChannel k { x with
        window := 0, lastWindow := x.window, reverse := decide (x.window < 0), windowDue := x.windowDue + 1000,
        flow := if x.config.k = 0 then none
          else if x.window ≤ 0 then some 0
          else some ((2 * (x.window.toNat * 600000) + x.config.k) / (2 * x.config.k)) }
      exec (.rateWindowClose k) s = .next
        (if x.window < 0 ∧ x.reverse = false then t.raise .reverseFlow k.val (beBytesInt 4 x.window) else t)) ∧
  (∀ s : State, s.mtc.creepDue ≤ s.ms →
    ∃ t, exec .creepWindowBoundary s = .next t ∧ OnlyBlocks [.mtc] s t ∧
      (∀ k, t.channel k = { s.channel k with creep := 0 }) ∧ t.mtc.creepDue = s.mtc.creepDue + 30000 ∧
      t.mtc.armed = s.mtc.armed ∧ t.mtc.capture = s.mtc.capture ∧ t.mtc.prover = s.mtc.prover) ∧
  (∀ (s : State) (p : Fin 8) (k : PointConfig) (c : Context) (a : Account),
    (s.channel p).windowDue ≤ s.ms → (s.point p).state.flowing = true → (s.point p).config = some k →
    (s.point p).context = some c → s.account c.account = some a → (s.figures p c).net ≠ c.posted →
      let n := (s.figures p c).net
      ∃ t b, exec (.rateWindowClose p) s = .next t ∧
        (∃ d, (t.point p).context = some d ∧ d.posted = n ∧ d.limit = c.limit) ∧
        (t.tank k.tank).book = (s.tank k.tank).book.map
          (fun v => max (-4294967296) (min 4294967295 (v - ((n : Int) - c.posted)))) ∧
        t.account c.account = some b ∧
        b.entryFor k.product = (a.entryFor k.product).map (fun e => { e with
          used := min ((e.used : Int) + ((n : Int) - c.posted)).toNat 4000000000,
          committed := e.committed + (c.limit - n) - (c.limit - c.posted) }) ∧
        b.hours = a.hours ∧ b.openCount = a.openCount ∧
        ∀ j, j ≠ c.account → t.account j = s.account j) ∧
  ∀ (s : State) (p : Fin 8) (k : PointConfig) (c : Context),
    let x := s.channel p
    x.windowDue ≤ s.ms → (s.point p).state.flowing = true → (s.point p).config = some k →
    (s.point p).context = some c →
      let fast := k.maxFlow ≠ 0 ∧ x.config.k ≠ 0 ∧ 0 < x.window ∧
        k.maxFlow < (2 * (x.window.toNat * 600000) + x.config.k) / (2 * x.config.k)
      let idle := s.mgt.params.noFlowTime * 1000 ≤ s.ms - c.lastCount
      let ends := fun (t : State) (cause : EndCause) => (t.point p).state = .stopping ∧
        ∃ d, (t.point p).context = some d ∧ d.endCause = some cause ∧ d.stoppingAt = s.clock ∧
          d.quietFrom = s.clock ∧ d.limit = c.limit ∧ d.posted = (s.figures p c).net
      ∃ t, exec (.rateWindowClose p) s = .next t ∧
        (fast → 1 ≤ c.overspeed → ends t .overspeed) ∧
        (¬fast ∨ c.overspeed = 0 →
          (idle → ends t .noFlow) ∧
          (¬idle → 16 ≤ c.phaseErrors → ends t .meterFault) ∧
          (¬idle → c.phaseErrors < 16 →
            (∃ d, (t.point p).context = some d ∧ d.overspeed = (if fast then 1 else 0) ∧
              d.phaseErrors = c.phaseErrors ∧ d.lastCount = c.lastCount ∧ d.limit = c.limit ∧
              ((t.point p).state = (s.point p).state ∧ d.endCause = c.endCause ∨
                (t.point p).state = .stopping ∧ d.endCause = some .tankLockout)) ∧
            (s.tks.lockouts = [] → ((t.point p).state = .stopping ↔
              (s.tank k.tank).state ≠ .lockedOut ∧ (t.tank k.tank).state = .lockedOut))))

/-! ### Volume arithmetic (chapter 4) -/

/-- Gross understates the metered volume by less than 1 cL, a net count below 0 gives none, and both figures are held
at 4,000,000,000; net is the closed net with the open segment's rounded contribution, never below the closed net. The
temperature factor is within half a ppm of its exact value, within 870,000 to 1,130,000 for every β and temperature in
range, 1,000,000 at 15.0 degrees and for β 0, and never rises with the temperature. -/
def Obligations.VolumeFiguresAreExact : Prop :=
  (∀ (c : Context) (now : BitVec 32) (k : Nat), 0 < k → c.closedNet ≤ 4000000000 →
    let f := figures c now k
    let count := (now - c.startCount).toInt
    f.count = count ∧ f.gross ≤ 4000000000 ∧ f.net ≤ 4000000000 ∧ c.closedNet ≤ f.net ∧
    (count ≤ 0 → f.gross = 0) ∧
    (0 ≤ count → f.gross < 4000000000 →
      (f.gross * k : Int) ≤ count * 100000 ∧ count * 100000 < ((f.gross + 1) * k : Int)) ∧
    (f.gross < c.segBase → f.net = c.closedNet) ∧
    (c.segBase ≤ f.gross → f.net < 4000000000 →
      2 * ((f.gross - c.segBase) * c.segVcf : Int) < 2 * 1000000 * (f.net - c.closedNet : Int) + 1000000 ∧
        2 * 1000000 * (f.net - c.closedNet : Int) ≤ 2 * ((f.gross - c.segBase) * c.segVcf : Int) + 1000000)) ∧
  ∀ (beta : Nat) (t : Int), beta ≤ 2000 → -500 ≤ t → t ≤ 800 →
    870000 ≤ vcf beta t ∧ vcf beta t ≤ 1130000 ∧ vcf beta 150 = 1000000 ∧ vcf 0 t = 1000000 ∧
      2 * (10 * (vcf beta t : Int) - (10000000 - beta * (t - 150))) ≤ 10 ∧
      -10 ≤ 2 * (10 * (vcf beta t : Int) - (10000000 - beta * (t - 150))) ∧
      ∀ u, t ≤ u → u ≤ 800 → vcf beta u ≤ vcf beta t

/-- The volume of a level over a well-formed strapping table: straight-line interpolation, the end volumes outside,
never outside their range, and never smaller for a higher level. -/
def Obligations.StrappingInterpolates : Prop :=
  ∀ (ps : List StrapPoint) (first last : StrapPoint) (l : Nat),
    ps.head? = some first → ps.getLast? = some last → wellFormedStrap (some ps) = true →
      (∀ i p q, ps[i]? = some p → ps[i + 1]? = some q →
        (p.level ≤ l ∧ (l < q.level ∨ (l = q.level ∧ i + 2 = ps.length))) →
          strapVolume ps l = p.volume +
            (2 * ((q.volume - p.volume) * (l - p.level)) + (q.level - p.level)) / (2 * (q.level - p.level))) ∧
      (∀ p ∈ ps, strapVolume ps p.level = p.volume) ∧
      (l < first.level → strapVolume ps l = first.volume) ∧
      (last.level < l → strapVolume ps l = last.volume) ∧
      (strapClamps ps l = true ↔ l < first.level ∨ last.level < l) ∧
      first.volume ≤ strapVolume ps l ∧ strapVolume ps l ≤ last.volume ∧
      ∀ m, l ≤ m → strapVolume ps l ≤ strapVolume ps m

/-! ### Dispense points (chapter 5) -/

/-- While the bay level is not NORMAL every valve and pump output is shut, whatever the points' states; at ISOLATE every
inlet valve is shut too. At NORMAL the slow valve is open in FAST and SLOW, the fast valve in FAST, and a pump runs
exactly while a point that names it flows. A tank's inlet valve is open exactly while an order on the tank is ACTIVE,
the level is not ISOLATE, its gauge is VALID and its last level is below its high-high level. -/
def Obligations.OutputsFollowTheLevel : Prop :=
  ∀ s : State,
    (s.ssd.level ≠ .normal → (∀ p, s.fastValve p = false ∧ s.slowValve p = false) ∧ ∀ k, s.pumpOutput k = false) ∧
    (s.ssd.level = .isolate → ∀ t, s.inletValve t = false) ∧
    (s.ssd.level = .normal →
      (∀ p, (s.fastValve p = true ↔ (s.point p).state = .fast) ∧
        (s.slowValve p = true ↔ ((s.point p).state = .fast ∨ (s.point p).state = .slow))) ∧
      ∀ k, s.pumpOutput k = true ↔
        ∃ p c, (s.point p).config = some c ∧ c.pump = k ∧ ((s.point p).state = .fast ∨ (s.point p).state = .slow)) ∧
    (WorkReserved s → ∀ t, s.inletValve t = true ↔
      (∃ o x, s.order o = some x ∧ x.tank = t ∧ x.state = .active) ∧ s.ssd.level ≠ .isolate ∧
        (s.tank t).gauge = .valid ∧
        ∃ c l, (s.tank t).config = some c ∧ (s.tank t).lastLevel = some l ∧ l < c.highHigh)

/-- The authorisation timer's end and CANCEL move a running point to STOPPING with their end causes and start the
settle; CANCEL of a STOPPING point changes nothing, and of a point with nothing open is refused with STATE. A flowing
point offers a PANEL_STATUS frame every 2 s, which joins the forward queue; a pump's run time counts each whole second
that its output has been on. When a pump's second has run is the model's reading (log 29). -/
def Obligations.PointsAreStopped : Prop :=
  (∀ (s : State) (p : Fin 8) (c : Context), (s.point p).state = .authorised → (s.point p).context = some c →
    c.authDue ≤ s.clock →
      ∃ t d, exec (.authTimerExpiry p) s = .next t ∧ OnlyBlocks [.dpt, .fsm] s t ∧
        (t.point p).state = .stopping ∧ (t.point p).context = some d ∧ d.endCause = some .authTimeout ∧
        d.stoppingAt = s.clock ∧ d.quietFrom = s.clock ∧ d.posted = c.posted ∧ d.limit = c.limit ∧
        (∀ q, q ≠ p → t.point q = s.point q) ∧ ∀ k, t.entry k = s.entry k) ∧
  (∀ (s : State) (f : Frame) (rest : List Frame) (p : Fin 8), Requested s f rest 3 0x27 p.val [] →
    (∀ c, (s.point p).state.running = true → (s.point p).context = some c →
      Serves .cancel s f rest 0 [] [.dpt, .fsm] (fun t =>
        (t.point p).state = .stopping ∧
        (∃ d, (t.point p).context = some d ∧ d.endCause = some .siteCancel ∧ d.stoppingAt = s.clock ∧
          d.quietFrom = s.clock ∧ d.posted = c.posted ∧ d.limit = c.limit) ∧
        (∀ q, q ≠ p → t.point q = s.point q) ∧ ∀ k, t.entry k = s.entry k)) ∧
    ((s.point p).state = .stopping → Serves .cancel s f rest 0 [] [] (fun _ => True)) ∧
    ((s.point p).state = .uncommissioned ∨ (s.point p).state = .disabled ∨ (s.point p).state = .idle →
      Serves .cancel s f rest 8 [] [] (fun _ => True))) ∧
  (∀ (s : State) (p : Fin 8) (k : PointConfig) (c : Context), (s.point p).state.flowing = true →
    (s.point p).statusFrom + 2000000 ≤ s.clock → (s.point p).config = some k → k.panel ≠ 0 →
    (s.point p).context = some c → s.fsm.queue.length < 8 →
      ∃ t, exec (.panelStatusTimer p) s = .next t ∧ OnlyBlocks [.dpt, .fsm] s t ∧
        (t.point p).statusFrom = s.clock ∧ (t.point p).state = (s.point p).state ∧
        (∀ q, q ≠ p → t.point q = s.point q) ∧
        t.fsm = { s.fsm with queue := s.fsm.queue ++ [{
          sort := .panelStatus, joined := s.ms,
          frame := makeFrame k.panel 0x30 ([BitVec.ofNat 8 p.val, (s.point p).state.code,
            refusalCode (s.point p).refusal] ++ beBytes 4 (s.figures p c).net ++ beBytes 4 c.limit ++
            [c.governing.code]) }] }) ∧
  ∀ (s : State) (k : Fin 4),
    let on := (s.pump k).carried + (if (s.pump k).on then s.clock - (s.pump k).onSince else 0)
    1000000 ≤ on → exec (.pumpRunSecond k) s = .next (s.setPump k { s.pump k with
      runTime := min ((s.pump k).runTime + 1) 4294967295, carried := on - 1000000, onSince := s.clock })

/-- The settle's end completes a transaction: its DISPENSE record takes the next record number in its reserved place,
with the final net, and the point is IDLE with the last figures, unless a run's next step opens there at once. A run's
step is recorded, OK when the limit was reached and else SHORT, with what it delivered; then its run, while ACTIVE, is
DONE after the last step, SUSPENDED after a SHORT step or one that pauses, and else goes on: the next step opens a
context of at most its target, or is refused and the run is SUSPENDED. That the suspend reason holds a value only while
SUSPENDED is the model's choice (log 48). -/
def Obligations.SettleCompletes : Prop :=
  ∀ (s : State) (p : Fin 8) (k : PointConfig) (c : Context),
    (s.point p).state = .stopping → (s.point p).config = some k → (s.point p).context = some c →
    (c.quietFrom + 2000000 ≤ s.clock ∨ c.stoppingAt + 5000000 ≤ s.clock) →
      let n := (s.figures p c).net
      let recorded := fun (t : State) => ∃ r,
        (t.point p).lastNet = n ∧ (t.point p).lastLimit = c.limit ∧
        (t.point p).lastGoverning = some c.governing ∧
        t.jev.journal = s.jev.journal ++ [.dispense r] ∧ r.number = s.jev.nextNumber ∧
        t.jev.nextNumber = s.jev.nextNumber + 1 ∧
        r.point = p ∧ r.product = k.product ∧ r.tank = k.tank ∧ r.account = c.account ∧ r.tag = c.tag ∧
        r.run = c.run ∧
        r.limit = c.limit ∧ r.governing = c.governing ∧ r.gross = (s.figures p c).gross ∧ r.net = n ∧
        r.segCount = c.segCount ∧ r.lastTemp = c.segTemp ∧ r.startTime = c.startTime ∧ r.endTime = s.stamp ∧
        r.timeValid = (c.startValid && s.mgt.timeValid) ∧ r.endCause = c.endCause ∧
        r.overrun = decide (c.limit + k.tolerance < n)
      (NoStepFollows s c → ∃ t, exec (.settleEnd p) s = .next t ∧ recorded t ∧
        (t.point p).context = none ∧ (t.point p).state = .idle ∧ t.jev.reserved = s.jev.reserved - 1 ∧
        t.mtc = s.mtc ∧ t.spt = s.spt ∧ (c.run = none → t.srs = s.srs)) ∧
      ∀ id i j x, c.run = some (id, i) → s.slot j = some x → x.runId = id →
        (∀ q y, s.slot q = some y → y.runId = id → q = j) →
        let ok := c.endCause = some .limitReached
        let completed := fun (q : Nat) (z : RunStep) =>
          if q + 1 = i then
            { z with delivered := min (z.delivered + n) 4000000000, result := if ok then .ok else .short }
          else z
        ∃ t y, exec (.settleEnd p) s = .next t ∧ t.slot j = some y ∧ (∀ q, q ≠ j → t.slot q = s.slot q) ∧
          y.runId = id ∧ y.account = x.account ∧
          (NoStepFollows s c → (∀ q, y.steps[q]? = (x.steps[q]?).map (completed q)) ∧
            y = if x.state ≠ .active then { x with steps := y.steps }
              else if ¬ok then { x with
                steps := y.steps, state := .suspended, suspendReason := some .short,
                suspendDue := some (s.ms + 1800000) }
              else if x.steps.length ≤ x.current then { x with
                steps := y.steps, state := .done, suspendReason := none, suspendDue := none }
              else { x with
                steps := y.steps, state := .suspended, suspendReason := some .pause,
                suspendDue := some (s.ms + 1800000) }) ∧
          ∀ z w, x.state = .active → ok → x.steps[x.current]? = some z → 1 ≤ x.current →
            x.steps[x.current - 1]? = some w → w.pauseAfter = false → s.tks.lockouts = [] →
              recorded t ∧ y.current = x.current + 1 ∧
              (z.point ≠ p → (t.point p).context = none ∧ (t.point p).state = .idle) ∧
              ∃ result, (∀ q, y.steps[q]? = (x.steps[q]?).map (fun u =>
                  if q = x.current then { completed q u with result := result } else completed q u)) ∧
                ((result = .pending ∧ y.state = .active ∧ y.suspendReason = none ∧ y.suspendDue = none ∧
                    ∃ d, (t.point z.point).state = .authorised ∧ (t.point z.point).context = some d ∧
                      d.source = .run ∧ d.run = some (id, x.current + 1) ∧ d.account = x.account ∧
                      d.hour = none ∧ d.limit ≤ z.target) ∨
                  (result = .refused ∧ y.state = .suspended ∧ y.suspendReason = some .refused ∧
                    y.suspendDue = some (s.ms + 1800000) ∧ ∃ r, (t.point z.point).refusal = some r))

/-- An AUTHORISE that carries a tag and no hour reading is judged by the checks of R77 in order. The first that fails
refuses it with its code, which is shown at the point, sent to its panel, raised as AUTH_REFUSED and answered, and changes
nothing else but that the first JOURNAL_FULL is reported. One that passes them all opens a context at the point: the
limit and governing code are the least bound's, both committed values rise by the limit, a journal place is reserved, the
account's open count rises, the creep accumulator is cleared and the response carries the limit. The bound that governs
is the least, and the first of the order that equals it. The layouts of the response (log 13) and of
AUTH_REFUSED's detail (log 14), the order of the two events (log 35) and the flags that the panel's figures set (log 20)
are the model's reading. -/
def Obligations.AuthoriseOpensAContext : Prop :=
  (∀ (s : State) (f : Frame) (rest : List Frame) (p : Fin 8) (tag : Nat) (preset : Option Nat) (k : PointConfig)
    (slot : Nat) (a : Account) (e : Allowance) (l : Nat) (g : Governing),
    Requested s f rest 3 0x26 p.val (beBytes 4 tag ++ optBytes 4 preset ++ [0, 0, 0, 0]) →
    1 ≤ tag → tag ≤ 4294967295 → preset.getD 0 ≤ 4000000000 → AccountsDistinct s → a.tag = tag →
    MayOpen s p preset k slot a e l g → a.hoursRequired = false →
      Serves .authorise s f rest 0 ([BitVec.ofNat 8 p.val] ++ beBytes 4 l ++ [g.code])
        [.fsm, .mtc, .dpt, .mac, .tks, .jev] (fun t =>
          Opens s t p k slot a e l g {
            source := .site, hour := none, result := .none, hours := a.hours, services := a.services,
            jev := s.jev })) ∧
  (∀ (s : State) (f : Frame) (rest : List Frame) (p : Fin 8) (tag : Nat) (preset : Option Nat) (k : PointConfig)
    (i : Nat) (c : Prop) (code : AuthRefusal),
    Requested s f rest 3 0x26 p.val (beBytes 4 tag ++ optBytes 4 preset ++ [0, 0, 0, 0]) →
    1 ≤ tag → tag ≤ 4294967295 → preset.getD 0 ≤ 4000000000 → AccountsDistinct s →
    ((s.point p).state ≠ .uncommissioned → (s.point p).config = some k) →
    (s.checks p k tag preset)[i]? = some (c, code) → c →
    (∀ j b, j < i → (s.checks p k tag preset)[j]? = some b → ¬b.1) →
      Serves .authorise s f rest 0 [code.code] [.fsm, .dpt, .jev] (fun t =>
        Refuses s t p code ∧ t.jev = refusalEvents s p .site code)) ∧
  ∀ l : List (Nat × Governing), l ≠ [] →
    (∀ b ∈ l, (leastBound l).1 ≤ b.1) ∧
      ∃ before after, l = before ++ leastBound l :: after ∧ ∀ b ∈ before, (leastBound l).1 < b.1

/-- POINT_ENABLE moves a DISABLED point to IDLE and POINT_DISABLE an IDLE point to DISABLED; where the point is there
already, or runs, nothing changes, and an UNCOMMISSIONED point refuses both with STATE. -/
def Obligations.PointEnableAndDisable : Prop :=
  ∀ (s : State) (f : Frame) (rest : List Frame) (p : Fin 8), WorkReserved s →
    let moves := fun (x : PointState) (t : State) =>
      (t.point p).state = x ∧ (t.point p).context = none ∧ (t.point p).config = (s.point p).config ∧
        (∀ q, q ≠ p → t.point q = s.point q) ∧ ∀ k, t.entry k = s.entry k
    (Requested s f rest 3 0x28 p.val [] →
      ((s.point p).state = .disabled → Serves .pointEnable s f rest 0 [] [.dpt, .fsm] (moves .idle)) ∧
      ((s.point p).state ≠ .disabled → (s.point p).state ≠ .uncommissioned →
        Serves .pointEnable s f rest 0 [] [] (fun _ => True)) ∧
      ((s.point p).state = .uncommissioned → Serves .pointEnable s f rest 8 [] [] (fun _ => True))) ∧
    (Requested s f rest 3 0x29 p.val [] →
      ((s.point p).state = .idle → Serves .pointDisable s f rest 0 [] [.dpt, .fsm] (moves .disabled)) ∧
      ((s.point p).state = .disabled → Serves .pointDisable s f rest 0 [] [] (fun _ => True)) ∧
      ((s.point p).state = .authorised ∨ (s.point p).state.flowing = true ∨ (s.point p).state = .stopping →
        Serves .pointDisable s f rest 7 [] [] (fun _ => True)) ∧
      ((s.point p).state = .uncommissioned → Serves .pointDisable s f rest 8 [] [] (fun _ => True)))

/-- A NOZZLE_TAG record from the point's reader: the tag of the open context is ignored, a tag of no account is refused,
a tag of an account without a LOADED run at the point is authorised or, by the first check that fails, refused, BUSY
while another tag's context is open among them; and one with such a run starts it and offers its first step, with the
reading carried, also while another tag's context is open at the point. A record from another station, or of no point,
is a role error. AUTH_REFUSED's and RUN_STARTED's details are the model's reading (log 14), and so is the order of
AUTH_REFUSED and JOURNAL_FULL (log 35). An UNCOMMISSIONED point, in service or not, refuses a tag with NOT_COMMISSIONED;
that a point out of service keeps its stations is the model's reading (log 11). -/
def Obligations.TagsAreRead : Prop :=
  (∀ (s : State) (f : Frame) (p : Fin 8) (tag : Nat) (hour : Option Nat),
    1 ≤ tag → tag ≤ 4294967295 → hour.getD 0 ≤ 9999999 → AccountsDistinct s →
    (s.point p).state = .uncommissioned → (s.point p).context = none →
    Hands s f .nozzleTag ([BitVec.ofNat 8 p.val] ++ beBytes 4 tag ++ optBytes 4 hour) →
    (∀ k, (s.point p).config = some k → frameSource f = k.reader) →
    ((s.point p).config = none → frameSource f = num (s.point p).idle 4 1) →
    (∀ slot a j x, s.account slot = some a → a.tag = tag → s.slot j = some x → x.state = .loaded →
      x.account = slot → ∀ z ∈ x.steps, z.point ≠ p) →
      HandedOn s [.dpt, .jev] (fun t => (t.point p).state = .uncommissioned ∧ (t.point p).context = none ∧
        (t.point p).config = (s.point p).config ∧ (t.point p).refusal = some .notCommissioned ∧
        (∀ q, q ≠ p → t.point q = s.point q) ∧ t.jev = (s.raise .authRefused p.val [1, 1]).jev)) ∧
  ∀ (s : State) (f : Frame) (p : Fin 8) (k : PointConfig) (tag : Nat) (hour : Option Nat),
    1 ≤ tag → tag ≤ 4294967295 → hour.getD 0 ≤ 9999999 → (s.point p).config = some k →
    let mistaken := HandedOn s [] (fun t =>
      t.fsm.counters = { s.fsm.counters with roleErrors := min (s.fsm.counters.roleErrors + 1) 65535 })
    (∀ n tail, 8 ≤ n → n ≤ 255 → Hands s f .nozzleTag ([BitVec.ofNat 8 n] ++ tail) → tail.length = 9 → mistaken) ∧
    (Hands s f .nozzleTag ([BitVec.ofNat 8 p.val] ++ beBytes 4 tag ++ optBytes 4 hour) →
      (frameSource f ≠ k.reader → mistaken) ∧
      (frameSource f = k.reader →
        (∀ c, (s.point p).context = some c → c.tag = tag → HandedOn s [] (fun _ => True)) ∧
        ((s.point p).context = none →
          ((s.point p).state = .idle → s.ssd.level = .normal → JournalRoom s.jev → (∀ e ∈ s.mac.accounts, e.2.tag ≠ tag) →
              HandedOn s [.dpt, .jev] (fun t => (t.point p).state = .idle ∧ (t.point p).context = none ∧
                (t.point p).refusal = some .unknownTag ∧ (∀ q, q ≠ p → t.point q = s.point q) ∧
                t.jev = (s.raise .authRefused p.val [6, 1]).jev)) ∧
          ∀ slot a, AccountsDistinct s → s.account slot = some a → a.tag = tag →
            let names := fun (x : Run) => x.state = .loaded ∧ x.account = slot ∧ ∃ z ∈ x.steps, z.point = p
            ∀ e l g, (∀ j x, s.slot j = some x → ¬names x) → hour = none → a.hoursRequired = false →
              MayOpen s p none k slot a e l g →
                HandedOn s [.mtc, .dpt, .mac, .tks, .jev] (fun t => Opens s t p k slot a e l g {
                  source := .tag, hour := none, result := .none, hours := a.hours, services := a.services,
                  jev := s.jev })) ∧
        ((∀ c, (s.point p).context = some c → c.tag ≠ tag) → AccountsDistinct s →
          let names := fun (slot : Nat) (x : Run) => x.state = .loaded ∧ x.account = slot ∧ ∃ z ∈ x.steps, z.point = p
          (∀ code, FirstFailing (s.checks p k tag none) code → hour = none →
            (∀ slot a, s.account slot = some a → a.tag = tag → ∀ j x, s.slot j = some x → ¬names slot x) →
              HandedOn s [.dpt, .jev] (fun t => (t.point p).state = (s.point p).state ∧
                (t.point p).config = (s.point p).config ∧ (t.point p).refusal = some code ∧
                ((s.point p).context = none → (t.point p).context = none) ∧
                (∀ c, (s.point p).context = some c → ∃ d, (t.point p).context = some d ∧
                  d = { c with reverse := d.reverse, saturated := d.saturated }) ∧
                (∀ q, q ≠ p → t.point q = s.point q) ∧ t.dpt.pumps = s.dpt.pumps ∧
                t.jev = refusalEvents s p .tag code)) ∧
          ∀ slot a, s.account slot = some a → a.tag = tag →
            let names := names slot
            ∀ j x z more, s.slot j = some x → names x → x.steps = z :: more →
              (∀ i y, s.slot i = some y → names y → i = j) →
                ∃ t y, exec .fieldFrameTaken s = .next t ∧ t.fsm.hold = none ∧ t.slot j = some y ∧
                  (∀ i, i ≠ j → t.slot i = s.slot i) ∧ y.current = 1 ∧ y.runId = x.runId ∧
                  y.account = x.account ∧ y.startReading = none ∧
                  ((∃ d, (t.point z.point).state = .authorised ∧ (t.point z.point).context = some d ∧
                      d.source = .run ∧ d.run = some (x.runId, 1) ∧ d.hour = hour ∧ d.account = slot ∧
                      d.limit ≤ z.target ∧ y.state = .active ∧ y.suspendReason = none ∧ y.suspendDue = none) ∨
                    ∃ r, (t.point z.point).refusal = some r ∧ y.state = .suspended ∧
                      y.suspendReason = some .refused ∧ y.suspendDue = some (s.ms + 1800000)) ∧
                  (s.jev.queue.length < 32 → s.jev.masks[5] = false → ∃ ev ∈ t.jev.queue,
                    ev.kind = .runStarted ∧ ev.source = j.val ∧
                    ev.detail = padTo 8 (beBytes 1 x.runId ++ [BitVec.ofNat 8 p.val])))))

/-- A PANEL_ENTRY record from the point's panel. STOP ends a running point with DRIVER_STOP, ACK clears the refusal
shown, START takes AUTHORISED to FAST or SLOW, or to STOPPING where the limit is reached, PRESET lowers a running
point's limit, no lower than its net, and releases what that frees, RESUME takes a SUSPENDED run that names the point on
to its next step or to DONE. A key with nothing to act on changes nothing; a RESUME at an ACTIVE run is counted there.
RUN_DONE's detail is the model's reading (log 14), and that the suspend reason of a run taken to DONE is cleared its
choice (log 48). -/
def Obligations.PanelKeysAreTaken : Prop :=
  ∀ (s : State) (f : Frame) (p : Fin 8) (k : PointConfig) (code v : Nat),
    Hands s f .panelEntry ([BitVec.ofNat 8 p.val, BitVec.ofNat 8 code] ++ beBytes 4 v) → v ≤ 4294967295 →
    (s.point p).config = some k →
    let ignored := HandedOn s [] (fun _ => True)
    let others := fun (t : State) =>
      (t.point p).config = some k ∧ (t.point p).refusal = (s.point p).refusal ∧ ∀ q, q ≠ p → t.point q = s.point q
    let stopped := fun (t : State) (c : Context) (limit : Nat) (cause : EndCause) =>
      (t.point p).state = .stopping ∧ ∃ d, (t.point p).context = some d ∧ d.endCause = some cause ∧
        d.stoppingAt = s.clock ∧ d.quietFrom = s.clock ∧ d.limit = limit ∧ d.posted = c.posted
    let named := fun (x : Run) => ∃ z ∈ x.steps, z.point = p
    (frameSource f ≠ k.panel ∨ code = 0 ∨ (6 ≤ code ∧ code ≤ 255) → HandedOn s [] (fun t =>
      t.fsm.counters = { s.fsm.counters with roleErrors := min (s.fsm.counters.roleErrors + 1) 65535 })) ∧
    (frameSource f = k.panel →
      (code = 5 → (s.point p).state ≠ .uncommissioned → HandedOn s [.dpt] (fun t =>
        (t.point p).refusal = none ∧ (t.point p).state = (s.point p).state ∧ (t.point p).config = some k ∧
          ((s.point p).context = none → (t.point p).context = none) ∧ ∀ q, q ≠ p → t.point q = s.point q)) ∧
      (code = 5 → (s.point p).state = .uncommissioned → ignored) ∧
      (code = 2 → (s.point p).state.running = false → ignored) ∧
      (code = 1 → (s.point p).state ≠ .authorised → ignored) ∧
      (code = 3 → (s.point p).state.running = false → ignored) ∧
      (∀ c m, (s.point p).context = some c → s.product k.product = some m →
        let n := (s.figures p c).net
        (code = 2 → (s.point p).state.running = true →
          HandedOn s [.dpt] (fun t => others t ∧ stopped t c c.limit .driverStop)) ∧
        (code = 1 → (s.point p).state = .authorised → HandedOn s [.dpt] (fun t => others t ∧
          (c.limit ≤ n + k.stopLead → stopped t c c.limit .limitReached) ∧
          (n + k.stopLead < c.limit →
            (t.point p).state = (if k.slowOnly = true ∨ c.limit ≤ n + m.slowDown then .slow else .fast) ∧
            ∃ d, (t.point p).context = some d ∧ d.lastCount = s.ms ∧ d.overspeed = 0 ∧ d.limit = c.limit ∧
              d.posted = c.posted ∧ d.endCause = c.endCause))) ∧
        (code = 3 → (s.point p).state.running = true →
          let limit := max v n
          (c.limit ≤ limit → HandedOn s [.dpt] (fun t => others t ∧ (t.point p).state = (s.point p).state ∧
            ∃ d, (t.point p).context = some d ∧ d.limit = c.limit ∧ d.governing = c.governing ∧
              d.posted = c.posted ∧ d.endCause = c.endCause)) ∧
          ∀ a, limit < c.limit → s.account c.account = some a → HandedOn s [.dpt, .tks, .mac] (fun t => others t ∧
            (limit ≤ n + k.stopLead → stopped t c limit .limitReached) ∧
            (n + k.stopLead < limit → (t.point p).state =
              if (s.point p).state = .fast ∧ limit ≤ n + m.slowDown then .slow else (s.point p).state) ∧
            (∃ d, (t.point p).context = some d ∧ d.limit = limit ∧ d.governing = .preset ∧ d.posted = c.posted) ∧
            (∀ j, t.tank j = if j = k.tank then { s.tank j with
              committed := (s.tank j).committed + (limit - c.posted) - (c.limit - c.posted) } else s.tank j) ∧
            (∃ b, t.account c.account = some b ∧
              b.entryFor k.product = (a.entryFor k.product).map (fun e => { e with
                committed := e.committed + (limit - c.posted) - (c.limit - c.posted) }) ∧
              b.openCount = a.openCount ∧ b.hours = a.hours) ∧
            ∀ j, j ≠ c.account → t.account j = s.account j))) ∧
      (code = 4 →
        (∀ j x, s.slot j = some x → x.state = .suspended → named x →
          (∀ i y, i < j → s.slot i = some y → y.state = .suspended → ¬named y) →
          (x.steps.length ≤ x.current → HandedOn s [.srs, .jev] (fun t =>
            t.srs = (s.setSlot j (some { x with
              state := .done, suspendReason := none, suspendDue := none })).srs ∧
            t.jev = (s.raise .runDone j.val (beBytes 1 x.runId ++
              beBytes 1 (x.steps.countP (fun z => decide (z.result = .ok))))).jev)) ∧
          ∀ z, x.steps[x.current]? = some z → ∃ t y, exec .fieldFrameTaken s = .next t ∧ t.fsm.hold = none ∧
            t.slot j = some y ∧ y.current = x.current + 1 ∧ y.runId = x.runId ∧
            (∀ i, i ≠ j → t.slot i = s.slot i) ∧
            ((∃ d, (t.point z.point).state = .authorised ∧ (t.point z.point).context = some d ∧
                d.source = .run ∧ d.run = some (x.runId, x.current + 1) ∧ d.limit ≤ z.target ∧
                y.state = .active) ∨
              ∃ r, (t.point z.point).refusal = some r ∧ y.state = .suspended ∧
                y.suspendReason = some .refused ∧ y.suspendDue = some (s.ms + 1800000))) ∧
        ((∀ i y, s.slot i = some y → y.state = .suspended → ¬named y) →
          (∀ j x, s.slot j = some x → x.state = .active → named x →
            (∀ i y, i < j → s.slot i = some y → y.state = .active → ¬named y) →
              HandedOn s [.srs] (fun t => t.srs =
                (s.setSlot j (some { x with ignored := min (x.ignored + 1) 255 })).srs)) ∧
          ((∀ i y, s.slot i = some y → y.state = .active → ¬named y) → ignored))))

/-! ### Service runs (chapter 6) -/

/-- RUN_LOAD fills an EMPTY slot with a LOADED run of the steps it carries; RUN_APPEND adds steps to a run that has
not ended; RUN_CLEAR_PAUSE clears one step's pause flag; a write of the empty form empties the slot of an ended run.
The layouts are the model's reading (logs 12 and 13), and that
RUNS_WRITE takes a READ of a run its choice (log 3). -/
def Obligations.RunsAreLoadedAndEdited : Prop :=
  ∀ (s : State) (f : Frame) (rest : List Frame) (k : Fin 4) (id : Nat) (steps : List (Fin 8 × Nat × Bool)),
    1 ≤ id → id ≤ 255 → StepsInRange steps →
    let slots := fun (t : State) (y : Option Run) => ∀ j, t.slot j = if j = k then y else s.slot j
    (∀ account, Requested s f rest 3 0x2A k.val ([BitVec.ofNat 8 id] ++ beBytes 2 account ++
        [BitVec.ofNat 8 steps.length] ++ steps.flatMap stepFields) →
      account ≤ 1023 → 1 ≤ steps.length → steps.length ≤ 8 → s.slot k = none → (s.account account).isSome = true →
      (∀ j y, s.slot j = some y → y.runId ≠ id ∧
        (y.account = account → y.state = .done ∨ y.state = .abandoned)) →
        Serves .runLoad s f rest 0 [] [.srs] (fun t => slots t (some {
          state := .loaded, runId := id, account := account, steps := steps.map loadedStep, current := 0,
          suspendReason := none, suspendDue := none, startReading := none, ignored := 0, abandonReason := none }))) ∧
    ∀ x, s.slot k = some x → x.runId = id →
      (Requested s f rest 3 0x2B k.val ([BitVec.ofNat 8 id] ++ [BitVec.ofNat 8 steps.length] ++
          steps.flatMap stepFields) →
        1 ≤ steps.length → x.steps.length + steps.length ≤ 8 → steps.length ≤ 7 →
        x.state ≠ .done → x.state ≠ .abandoned →
          Serves .runAppend s f rest 0 [] [.srs]
            (fun t => slots t (some { x with steps := x.steps ++ steps.map loadedStep }))) ∧
      (∀ i, Requested s f rest 3 0x2C k.val [BitVec.ofNat 8 id, BitVec.ofNat 8 i] →
        x.current < i → i ≤ x.steps.length → i ≤ 8 → x.state ≠ .done → x.state ≠ .abandoned →
          Serves .runClearPause s f rest 0 [] [.srs] (fun t => ∃ l, slots t (some { x with steps := l }) ∧
            ∀ j, l[j]? = (x.steps[j]?).map (fun z => if j + 1 = i then { z with pauseAfter := false } else z))) ∧
      (Requested s f rest 2 0x0F k.val [] → x.state = .done ∨ x.state = .abandoned →
        (∀ p c r, (s.point p).context = some c → c.run = some r → r.1 ≠ id) →
          Serves .runsWrite s f rest 0 [] [.srs] (fun t => slots t none)) ∧
      (Requested s f rest 1 0x0F k.val [] →
        Serves .runsWrite s f rest 0 (runBytes (some x)) [] (fun _ => True))

/-- RUN_RESUME takes a SUSPENDED run past its last step to DONE, or offers its next step for the step's target;
RUN_RETRY offers the current step again for what is left of it. The step offered opens a context of at most that
volume and the run is ACTIVE, or it is refused and the run is SUSPENDED afresh for 30 minutes. The responses' layout
(log 13), the layout of RUN_DONE (log 14) and the clearing of the suspend reason (log 48) are the model's choice. -/
def Obligations.RunsAreResumedAndRetried : Prop :=
  ∀ (s : State) (f : Frame) (rest : List Frame) (k : Fin 4) (x : Run),
    s.slot k = some x → x.state = .suspended → 1 ≤ x.runId → x.runId ≤ 255 →
    let offered := fun (c : Instr) (i : Nat) (z : RunStep) (volume : Nat) => ∃ t data y,
      exec c s = .next t ∧ Answered s t f rest 0 data ∧ t.slot k = some y ∧ y.current = i ∧ y.runId = x.runId ∧
      (∀ j, j ≠ k → t.slot j = s.slot j) ∧
      ((∃ d, (t.point z.point).state = .authorised ∧ (t.point z.point).context = some d ∧ d.source = .run ∧
          d.run = some (x.runId, i) ∧ d.limit ≤ volume ∧ y.state = .active ∧ y.suspendReason = none ∧
          y.suspendDue = none ∧
          data = [BitVec.ofNat 8 z.point.val] ++ beBytes 4 d.limit ++ [d.governing.code]) ∨
        ∃ r, (t.point z.point).refusal = some r ∧ y.state = .suspended ∧ y.suspendReason = some .refused ∧
          y.suspendDue = some (s.ms + 1800000) ∧ data = [r.code])
    (Requested s f rest 3 0x2D k.val [BitVec.ofNat 8 x.runId] →
      (x.steps.length ≤ x.current → Serves .runResume s f rest 0 [] [.srs, .jev] (fun t =>
        t.slot k = some { x with state := .done, suspendReason := none, suspendDue := none } ∧
        (∀ j, j ≠ k → t.slot j = s.slot j) ∧
        t.jev = (s.raise .runDone k.val (beBytes 1 x.runId ++
          beBytes 1 (x.steps.countP (fun z => decide (z.result = .ok))))).jev)) ∧
      ∀ z, x.steps[x.current]? = some z → offered .runResume (x.current + 1) z z.target) ∧
    (Requested s f rest 3 0x2E k.val [BitVec.ofNat 8 x.runId] → x.suspendReason ≠ some .pause → 1 ≤ x.current →
      ∀ z, x.steps[x.current - 1]? = some z → z.delivered < z.target →
        offered .runRetry x.current z (z.target - z.delivered))

/-- RUN_ABANDON of a run that has not ended, and the suspend timer's end, make it ABANDONED with its reason and
raise RUN_ABANDONED; a step open at a point that runs is ended there with SITE_CANCEL. The event's layout
(log 14) and the clearing of the suspend reason (log 48) are the model's choice. -/
def Obligations.RunsAreAbandoned : Prop :=
  ∀ (s : State) (k : Fin 4) (x : Run), s.slot k = some x →
    let detail := fun (code : Byte) => beBytes 1 x.runId ++ beBytes 1 x.current ++ [code]
    let gone := fun (r : AbandonReason) => some { x with
      state := .abandoned, suspendReason := none, suspendDue := none, abandonReason := some r }
    let closed := ∀ p c r, (s.point p).context = some c → c.run = some r → r.1 ≠ x.runId
    (∀ d, x.state = .suspended → x.suspendDue = some d → d ≤ s.ms → closed →
      exec (.suspendTimerExpiry k) s =
        .next ((s.setSlot k (gone .timeout)).raise .runAbandoned k.val (detail 2))) ∧
    ∀ f rest, Requested s f rest 3 0x2F k.val [BitVec.ofNat 8 x.runId] → 1 ≤ x.runId → x.runId ≤ 255 →
      x.state = .loaded ∨ x.state = .active ∨ x.state = .suspended →
      (closed → Serves .runAbandon s f rest 0 [] [.srs, .jev] (fun t =>
        t.srs = (s.setSlot k (gone .site)).srs ∧ t.jev = (s.raise .runAbandoned k.val (detail 1)).jev)) ∧
      ∀ p c i, (s.point p).context = some c → c.run = some (x.runId, i) → (s.point p).state.running = true →
        (∀ q d r, q ≠ p → (s.point q).context = some d → d.run = some r → r.1 ≠ x.runId) →
          Serves .runAbandon s f rest 0 [] [.srs, .jev, .dpt, .fsm] (fun t =>
            t.srs = (s.setSlot k (gone .site)).srs ∧ t.jev = (s.raise .runAbandoned k.val (detail 1)).jev ∧
            (t.point p).state = .stopping ∧
            (∃ d, (t.point p).context = some d ∧ d.endCause = some .siteCancel) ∧
            ∀ q, q ≠ p → t.point q = s.point q)

/-! ### Machine accounts (chapter 7) -/

/-- Elapsed hours are known while the clock is valid and the account's wall time is present: a 360th of the wrapped
signed difference in seconds, rounded down, a negative difference taken as 0. A reading offered with an AUTHORISE that
passes the other checks is ACCEPTED, CONFIRMED, or rejected as a REGRESSION or a JUMP; it changes the hour record so, an
accepted one evaluates the service records, and the context opens with the result, unless the account requires hours and
the reading is absent or rejected: then the authorisation is refused and the rejection stands. The layouts are the
model's reading (logs 13 and 14). -/
def Obligations.HourReadings : Prop :=
  (∀ (s : State) (h : HourRecord),
    (∀ w, s.mgt.timeValid = true → h.wallTime = some w →
      ∃ e, s.elapsedHours h = some e ∧ ((s.mgt.wall - w).toInt < 0 → e = 0) ∧
        (0 ≤ (s.mgt.wall - w).toInt →
          360 * (e : Int) ≤ (s.mgt.wall - w).toInt ∧ (s.mgt.wall - w).toInt < 360 * ((e : Int) + 1))) ∧
    (s.mgt.timeValid = false ∨ h.wallTime = none → s.elapsedHours h = none)) ∧
  ∀ (s : State) (f : Frame) (rest : List Frame) (p : Fin 8) (tag : Nat) (preset reading : Option Nat)
    (k : PointConfig) (slot : Nat) (a : Account) (e : Allowance) (l : Nat) (g : Governing),
    Requested s f rest 3 0x26 p.val (beBytes 4 tag ++ optBytes 4 preset ++ optBytes 3 reading) →
    1 ≤ tag → tag ≤ 4294967295 → preset.getD 0 ≤ 4000000000 → reading.getD 0 ≤ 9999999 → AccountsDistinct s →
    a.tag = tag → MayOpen s p preset k slot a e l g →
    let opened := fun (o : Opening) =>
      Serves .authorise s f rest 0 ([BitVec.ofNat 8 p.val] ++ beBytes 4 l ++ [g.code])
        [.fsm, .mtc, .dpt, .mac, .tks, .jev] (fun t => Opens s t p k slot a e l g o)
    let refused := fun (h : HourRecord) (jev : Jev) =>
      Serves .authorise s f rest 0 [11] [.fsm, .dpt, .mac, .jev] (fun t =>
        (t.point p).state = .idle ∧ (t.point p).refusal = some .hoursRequired ∧
        (∀ q, q ≠ p → t.point q = s.point q) ∧ t.account slot = some { a with hours := h } ∧
        (∀ j, j ≠ slot → t.account j = s.account j) ∧
        t.jev = (State.raise (s.setJev jev) .authRefused p.val [11, 2]).jev)
    let h := a.hours
    (reading = none → a.hoursRequired = true → refused h s.jev) ∧
    ∀ r, reading = some r →
      let raised := some (max (h.pending.getD 0) r)
      let rejected := fun (result : HourResult) =>
        let after := { h with rejected := min (h.rejected + 1) 255 }
        let jev := (s.raise .hourRejected slot
          ([BitVec.ofNat 8 p.val] ++ beBytes 3 r ++ hourBytes h.lastAccepted ++ [result.code])).jev
        (a.hoursRequired = true → refused after jev) ∧
        (a.hoursRequired = false → opened {
          source := .site, hour := some r, result := result, hours := after, services := a.services, jev := jev })
      let after := fun (v : Service) => { v with state :=
        match v.hoursAtLast with
        | none => ServiceState.ok
        | some x =>
          if r < x then .ok
          else if 12 * v.interval ≤ 10 * (r - x) then .overdue
          else if v.interval ≤ r - x then .due
          else if 9 * v.interval ≤ 10 * (r - x) then .dueSoon
          else .ok }
      ((h.lastAccepted = none ∨ ∃ x, h.lastAccepted = some x ∧ x < r ∧
          ∀ d, s.elapsedHours h = some d → r ≤ x + d + (s.cls a.cls).tolerance) →
        ∃ jev, opened {
            source := .site, hour := some r, result := .accepted, services := a.services.map after, jev := jev,
            hours := { h with
              lastAccepted := some r, pending := raised,
              wallTime := if s.mgt.timeValid then some s.mgt.wall else none } } ∧
          jev.journal = s.jev.journal ∧ jev.reserved = s.jev.reserved ∧
          ((∀ v ∈ a.services, (after v).state = v.state ∨ (after v).state = .ok ∨ (after v).state = .dueSoon) →
            jev = s.jev) ∧
          (s.jev.queue.length ≤ 24 → a.services.length ≤ 4 → s.jev.masks[1] = false →
            ∀ i v, a.services[i]? = some v →
              (v.state = .ok ∨ v.state = .dueSoon → (after v).state = .due ∨ (after v).state = .overdue →
                ∃ ev ∈ jev.queue, ev.kind = .serviceDue ∧ ev.source = slot ∧
                  ev.detail.take 2 = [BitVec.ofNat 8 i, BitVec.ofNat 8 v.product.val]) ∧
              (v.state ≠ .overdue → (after v).state = .overdue →
                ∃ ev ∈ jev.queue, ev.kind = .serviceOverdue ∧ ev.source = slot ∧
                  ev.detail.take 2 = [BitVec.ofNat 8 i, BitVec.ofNat 8 v.product.val]))) ∧
      (h.lastAccepted = some r → opened {
        source := .site, hour := some r, result := .confirmed, services := a.services, jev := s.jev,
        hours := { h with pending := raised } }) ∧
      (∀ x, h.lastAccepted = some x → r < x → rejected .regression) ∧
      ∀ x d, h.lastAccepted = some x → x < r → s.elapsedHours h = some d →
        x + d + (s.cls a.cls).tolerance < r → rejected .jump

/-- SHIFT_CLOSE clears every used amount and nothing else of an account, answering how many are held; ACCOUNT_FIND
returns the slot and the part of the account that holds a tag; ACCOUNT_REMOVE empties the slot of an account that
nothing uses. The layouts are the model's reading (logs 12 and 13), and that the index of SHIFT_CLOSE and
ACCOUNT_FIND is not examined its choice (log 3). -/
def Obligations.AccountRequests : Prop :=
  ∀ (s : State) (f : Frame) (rest : List Frame) (i : Nat),
    (Requested s f rest 3 0x23 i [] →
      Serves .shiftClose s f rest 0 (beBytes 2 s.mac.accounts.length) [.mac] (fun t =>
        t.mac.classes = s.mac.classes ∧ ∀ j, t.account j = (s.account j).map (fun a => { a with
          allowances := a.allowances.map (fun e => { e with used := 0 }) }))) ∧
    (∀ part tag, Requested s f rest 3 0x3B i ([BitVec.ofNat 8 part] ++ beBytes 4 tag) →
      part = 1 ∨ part = 2 → 1 ≤ tag → tag ≤ 4294967295 →
      (∀ slot a, AccountsDistinct s → s.account slot = some a → a.tag = tag →
        Serves .accountFind s f rest 0
          (beBytes 2 slot ++ (if part = 1 then accountHeadBytes a else accountTailBytes a)) [] (fun _ => True)) ∧
      ((∀ e ∈ s.mac.accounts, e.2.tag ≠ tag) → Serves .accountFind s f rest 4 [] [] (fun _ => True))) ∧
    ∀ a, Requested s f rest 3 0x3C i [] → i ≤ 1023 → s.account i = some a →
      (a.openCount = 0 → (∀ k x, s.slot k = some x → x.account ≠ i) →
        Serves .accountRemove s f rest 0 [] [.mac] (fun t =>
          t.mac.classes = s.mac.classes ∧ t.account i = none ∧ ∀ j, j ≠ i → t.account j = s.account j)) ∧
      (0 < a.openCount ∨ (∃ k x, s.slot k = some x ∧ x.account = i) →
        Serves .accountRemove s f rest 7 [] [] (fun _ => True))

/-- The first part of an account is held; the second, following it for the same slot, judges the whole record: a new
account fills an empty slot, and an account written with its own tag keeps its committed amounts, its open count,
its pending reading and its rejected readings. When each check of a part is made is the model's choice (log 17). -/
def Obligations.AccountsAreWrittenInParts : Prop :=
  ∀ (s : State) (f : Frame) (rest : List Frame) (i : Nat) (body : List Byte),
    (Requested s f rest 2 0x0A i (1 :: body) → body.length = 9 + 10 * num body 8 1 →
      Serves .accountsWrite s f rest 0 [] [.mgt] (fun t => t.mgt = { s.mgt with
        assembly := some { object := .accounts, index := i, parts := 1, bytes := body } })) ∧
    ∀ head a, Requested s f rest 2 0x0A i (2 :: body) → body.length = 21 + 12 * num body 20 1 → i ≤ 1023 →
      s.mgt.assembly = some { object := .accounts, index := i, parts := 1, bytes := head } →
      parseAccount (head ++ body) = some a →
      (∀ e ∈ s.mac.accounts, e.1 ≠ i → e.2.tag ≠ a.tag) →
      (s.account i = none → Serves .accountsWrite s f rest 0 [] [.mac, .mgt] (fun t =>
        t.mgt = { s.mgt with assembly := none } ∧ t.mac.classes = s.mac.classes ∧ t.account i = some a ∧
        ∀ j, j ≠ i → t.account j = s.account j)) ∧
      ∀ o, s.account i = some o → o.tag = a.tag → (∀ p c, (s.point p).context = some c → c.account ≠ i) →
        Serves .accountsWrite s f rest 0 [] [.mac, .mgt] (fun t =>
          t.mgt = { s.mgt with assembly := none } ∧ t.mac.classes = s.mac.classes ∧
          (∀ j, j ≠ i → t.account j = s.account j) ∧
          t.account i = some { a with
            openCount := o.openCount,
            hours := { a.hours with pending := o.hours.pending, rejected := o.hours.rejected },
            allowances := a.allowances.map (fun e => { e with
              committed := ((o.entryFor e.product).map (·.committed)).getD 0 }) })

/-- MAC's part in a completion, at the end of the settle: the last posting, the release of what was committed and the
open count one lower, which a step of the run that follows at once may raise again, FUEL added to the fuel since anchor,
the burn step when the account comes to rest with a pending reading, and the service records that the net completes, each with its event. What a fall of
the net does to the committed amount is the model's reading (log 40), and so are the details' layouts (log 14). -/
def Obligations.AccountCompletion : Prop :=
  ∀ (s : State) (p : Fin 8) (k : PointConfig) (c : Context) (a : Account) (m : Product),
    (s.point p).state = .stopping → (s.point p).config = some k → (s.point p).context = some c →
    (∀ id i j x, c.run = some (id, i) → s.slot j = some x → x.runId = id → x.account = c.account) →
    (c.quietFrom + 2000000 ≤ s.clock ∨ c.stoppingAt + 5000000 ≤ s.clock) → s.account c.account = some a →
    s.product k.product = some m → 1 ≤ (s.cls a.cls).minSpan → (∀ v ∈ a.services, 1 ≤ v.interval) →
      let n := (s.figures p c).net
      let h := a.hours
      let fuel := if m.kind = .fuel then min (h.fuel + n) 4000000000 else h.fuel
      let rests := a.openCount ≤ 1
      let heard := s.jev.queue.length ≤ 16 ∧ s.jev.masks[1] = false ∧ a.services.length ≤ 4
      ∃ t b, exec (.settleEnd p) s = .next t ∧ t.account c.account = some b ∧
        (∀ j, j ≠ c.account → t.account j = s.account j) ∧ t.mac.classes = s.mac.classes ∧
        (b.tag = a.tag ∧ b.cls = a.cls ∧ b.suspended = a.suspended ∧ b.hoursRequired = a.hoursRequired ∧
          b.serviceLock = a.serviceLock ∧ (NoStepFollows s c → b.openCount = a.openCount - 1)) ∧
        (∃ released : Allowance → Nat,
          b.entryFor k.product = (a.entryFor k.product).map (fun e => { e with
            used := if n = c.posted then e.used
              else min ((e.used : Int) + ((n : Int) - c.posted)).toNat 4000000000,
            committed := released e }) ∧
          (NoStepFollows s c → ∀ e,
            released e = e.committed + (c.limit - n) - (c.limit - c.posted) - (c.limit - n))) ∧
        b.services = a.services.map (fun v =>
          if v.product = k.product ∧ v.minVolume ≤ n then
            match h.lastAccepted with
            | none => v
            | some l => { v with hoursAtLast := some l, state := .ok }
          else v) ∧
        (¬rests ∨ h.pending = none → b.hours = { h with fuel := fuel }) ∧
        (∀ r, rests → h.pending = some r →
          (h.anchor = none → b.hours = { h with anchor := some r, fuel := 0, pending := none }) ∧
          ∀ g, h.anchor = some g →
            let y := s.cls a.cls
            let sample := min ((2 * fuel + (r - g)) / (2 * (r - g))) 65535
            (r < g + y.minSpan → b.hours = { h with fuel := fuel, pending := none }) ∧
            (g + y.minSpan ≤ r → y.bandMin ≤ sample → sample ≤ y.bandMax →
              b.hours = { h with
                anchor := some r, fuel := 0, pending := none,
                burnRate := some (match h.burnRate with
                  | none => sample
                  | some q => if q ≤ sample then q + (2 * (sample - q) + 4) / 8
                    else q - (2 * (q - sample) + 4) / 8) }) ∧
            (g + y.minSpan ≤ r → sample < y.bandMin ∨ y.bandMax < sample →
              b.hours = { h with anchor := some r, fuel := 0, pending := none } ∧
              (heard → ∃ e ∈ t.jev.queue, e.kind = .burnRateAnomaly ∧ e.source = c.account ∧
                e.detail = padTo 8 (beBytes 2 sample ++ beBytes 3 (r - g))))) ∧
        (heard → ∀ i v, a.services[i]? = some v → v.product = k.product → v.minVolume ≤ n →
          ∃ e ∈ t.jev.queue, e.kind = .serviceDone ∧ e.source = c.account ∧
            e.detail = padTo 8 ([BitVec.ofNat 8 i, BitVec.ofNat 8 k.product.val] ++ hourBytes h.lastAccepted))

/-! ### Tanks and stock (chapter 8) -/

/-- STOCK_SET gives a commissioned tank's book its value, answers the old book, and evaluates the tank's state;
RECONCILE sets the baseline to the book less the gauged net and answers the old baseline, the new one and the loss.
The responses' layout is the model's reading (log 13). -/
def Obligations.StockRequests : Prop :=
  ∀ (s : State) (f : Frame) (rest : List Frame) (k : Fin 8) (c : TankConfig),
    s.mgt.commission = .commissioned → (s.tank k).config = some c →
    (∀ v : Int, Requested s f rest 3 0x24 k.val (beBytesInt 5 v) → -4294967296 ≤ v → v ≤ c.capacity →
      c.capacity ≤ 4000000000 →
        Serves .stockSet s f rest 0 (optBytesInt 5 (s.tank k).book) [.tks, .jev, .dpt, .fsm] (fun t =>
          t.tank k = { s.tank k with book := some v, state := tankStateOf c (t.tank k) } ∧
          (∀ j, j ≠ k → t.tank j = s.tank j) ∧ t.tks.orders = s.tks.orders)) ∧
    ∀ b g, Requested s f rest 3 0x25 k.val [] → (s.tank k).gauge = .valid → (s.tank k).book = some b →
      (s.tank k).gaugedNet = some g →
        Serves .reconcile s f rest 0 (optBytesInt 5 (s.tank k).baseline ++ beBytesInt 5 (b - g) ++
            beBytesInt 5 (match (s.tank k).baseline with | none => 0 | some base => b - g - base)) [.tks] (fun t =>
          t.tank k = { s.tank k with baseline := some (b - g), gainReported := false } ∧
          (∀ j, j ≠ k → t.tank j = s.tank j) ∧ t.tks.orders = s.tks.orders ∧ t.tks.lockouts = s.tks.lockouts)

/-- A GAUGE_SAMPLE from a tank's own gauge. OK takes its figures in either commission state: level, water, temperature,
observed volume and gauged net; and while COMMISSIONED it sets an unset book, evaluates the tank's state, closes the
segments of contexts that draw from it when the temperature changes, stops their points when the tank locks out, ends a
delivery at the high-high level and tests the loss of a quiet tank. FAULT leaves the figures, makes the gauge FAULT, and
when it was VALID ends a delivery and marks the contexts. A SUMP_LEVEL gives the sump's last level and the two
conditions judged from it, with their causes. STOCK_GAIN's detail is the model's reading (log 14). -/
def Obligations.SamplesAreTaken : Prop :=
  (∀ (s : State) (f : Frame) (k : Fin 8) (c : TankConfig) (status : Byte) (level : Nat) (temp : Int)
    (water : Option Nat),
    Hands s f .gaugeSample
      ([BitVec.ofNat 8 k.val, status] ++ beBytes 4 level ++ beBytesInt 2 temp ++ optBytes 4 water) →
    level ≤ 4294967295 → -32768 ≤ temp → temp ≤ 32767 → water.getD 0 ≤ 4294967295 → frameKind f ≠ 0x12 →
    (∃ e x, s.entry e = some x ∧ x.station = frameSource f) → (s.tank k).config = some c →
    c.gauge = frameSource f → WorkReserved s →
    (∀ m ps, status = 0 → s.product c.product = some m → (s.tank k).strap = some ps →
      wellFormedStrap (some ps) = true →
      let v := match water with
        | none => strapVolume ps level
        | some w => strapVolume ps level - strapVolume ps w
      let heat := max (-500) (min 800 temp)
      let g := min 4000000000 ((2 * (v * vcf m.beta heat) + 1000000) / 2000000)
      let taken := fun (t : State) =>
        (t.tank k).gauge = .valid ∧ (t.tank k).lastLevel = some level ∧ (t.tank k).lastWater = water ∧
        (t.tank k).lastTemp = some temp ∧ (t.tank k).applied = some heat ∧ (t.tank k).source = .sample ∧
        (t.tank k).clamped = decide (temp < -500 ∨ 800 < temp) ∧ (t.tank k).observed = some v ∧
        (t.tank k).gaugedNet = some g ∧ (t.tank k).config = some c ∧ (t.tank k).strap = some ps ∧
        (t.tank k).committed = (s.tank k).committed ∧ ∀ j, j ≠ k → t.tank j = s.tank j
      (s.mgt.commission = .uncommissioned → HandedOn s [.tks] (fun t => taken t ∧
        (t.tank k).book = (s.tank k).book ∧ (t.tank k).baseline = (s.tank k).baseline ∧
        (t.tank k).state = (s.tank k).state ∧ (t.tank k).gainReported = (s.tank k).gainReported)) ∧
      (s.mgt.commission = .commissioned → LevelIsHighest s →
        ∃ t, exec .fieldFrameTaken s = .next t ∧ t.fsm.hold = none ∧ taken t ∧ t.mac = s.mac ∧ t.mtc = s.mtc ∧
          (t.tank k).state = tankStateOf c (t.tank k) ∧
          ((s.tank k).book = none → (t.tank k).book = some (g : Int) ∧ (t.tank k).baseline = some 0) ∧
          ((s.tank k).book ≠ none →
            (t.tank k).book = (s.tank k).book ∧ (t.tank k).baseline = (s.tank k).baseline) ∧
          (t.tank k).delivery = (if level < c.highHigh then (s.tank k).delivery else none) ∧
          (∀ p q x n, (s.point p).config = some q → q.tank = k → (s.point p).context = some x →
            s.product q.product = some n →
            ∃ y, (t.point p).context = some y ∧ y.limit = x.limit ∧ y.posted = x.posted ∧
              ((s.tank k).applied ≠ some heat → y.closedNet = (s.figures p x).net ∧
                y.segBase = max x.segBase (s.figures p x).gross ∧ y.segTemp = heat ∧
                y.segVcf = vcf n.beta heat ∧ y.segCount = min (x.segCount + 1) 255) ∧
              ((s.tank k).applied = some heat → y.closedNet = x.closedNet ∧ y.segBase = x.segBase ∧
                y.segTemp = x.segTemp ∧ y.segVcf = x.segVcf ∧ y.segCount = x.segCount) ∧
              ((s.tank k).state ≠ .lockedOut → (t.tank k).state = .lockedOut →
                (s.point p).state.running = true →
                  (t.point p).state = .stopping ∧ y.endCause = some .tankLockout)) ∧
          ∀ b base, (s.tank k).book = some b → (s.tank k).baseline = some base → c.lossThreshold ≠ 0 →
            (∀ p q, (s.point p).config = some q → q.tank = k → (s.point p).context = none) →
            (s.tank k).delivery = none ∨ c.highHigh ≤ level →
            let loss := b - g - base
            ((c.lossThreshold : Int) ≤ loss → (t.tank k).gainReported = false ∧
              (s.cause (.lineLoss k) = none →
                t.cause (.lineLoss k) = some { active := false, level := .bayStop }) ∧
              (LevelIsHighest s → LevelIsHighest t)) ∧
            (loss ≤ -(c.lossThreshold : Int) → (t.tank k).gainReported = true ∧ t.ssd = s.ssd) ∧
            (-(c.lossThreshold : Int) < loss → loss < c.lossThreshold →
              (t.tank k).gainReported = false ∧ t.ssd = s.ssd))) ∧
    (status = 1 →
      ((s.tank k).gauge = .fault → HandedOn s [] (fun _ => True)) ∧
      ((s.tank k).gauge ≠ .fault →
        ∃ t, exec .fieldFrameTaken s = .next t ∧ t.fsm.hold = none ∧ t.mac = s.mac ∧ t.mtc = s.mtc ∧
          t.ssd = s.ssd ∧ (∀ j, j ≠ k → t.tank j = s.tank j) ∧
          (∃ st d, t.tank k = { s.tank k with gauge := .fault, state := st, delivery := d } ∧
            (s.mgt.commission = .commissioned → st = tankStateOf c (t.tank k)) ∧
            d = if (s.tank k).gauge = .valid then none else (s.tank k).delivery) ∧
          ∀ p q x, (s.point p).config = some q → q.tank = k → (s.point p).context = some x →
            (s.tank k).gauge = .valid →
              ∃ y, (t.point p).context = some y ∧ y.tempHeld = true ∧ y.limit = x.limit))) ∧
  ∀ (s : State) (f : Frame) (j : Fin 4) (level : Nat),
    Hands s f .sumpLevel ([BitVec.ofNat 8 j.val] ++ beBytes 4 level) → level ≤ 4294967295 →
    (s.sump j).config.station = frameSource f →
    let x := s.sump j
    let high := decide (x.config.high ≤ level)
    let highHigh := decide (x.config.highHigh ≤ level)
    HandedOn s [.ssd, .jev, .dpt, .tks] (fun t =>
      t.sump j = { x with lastLevel := some level, high := high, highHigh := highHigh } ∧
      (∀ i, i ≠ j → t.sump i = s.sump i) ∧
      (∀ c, c ≠ .sumpHigh j → c ≠ .sumpHighHigh j → t.cause c = s.cause c) ∧
      (LevelIsHighest s → LevelIsHighest t) ∧
      (x.high = high → t.cause (.sumpHigh j) = s.cause (.sumpHigh j)) ∧
      (x.high = false → high = true → s.cause (.sumpHigh j) = none →
        t.cause (.sumpHigh j) = some { active := true, level := .bayStop }) ∧
      (x.high = true → high = false → ∀ e, s.cause (.sumpHigh j) = some e →
        t.cause (.sumpHigh j) = some { e with active := false }) ∧
      (x.highHigh = highHigh → t.cause (.sumpHighHigh j) = s.cause (.sumpHighHigh j)) ∧
      (x.highHigh = false → highHigh = true → s.cause (.sumpHighHigh j) = none →
        t.cause (.sumpHighHigh j) = some { active := true, level := .isolate }) ∧
      (x.highHigh = true → highHigh = false → ∀ e, s.cause (.sumpHighHigh j) = some e →
        t.cause (.sumpHighHigh j) = some { e with active := false }))

/-- While the part is UNCOMMISSIONED a write of a structural record in its ranges replaces the record with what it
carries, whole, or clears it where its first flag is 0, and brings the applied temperatures and the filters up to date;
a strapping table of more than 12 points is put together from its parts. While the part is COMMISSIONED such a write is
refused with LOCKED, and the first or the last part of a strapping table drops what was put together. In either state a
part that is neither is kept, and one that continues nothing is STATE and drops it too. The layouts (log 12), what a
cleared record keeps (log 11), the applied temperature of a tank in SAMPLE and of one that names no defined product
(log 15), the gauge of a tank taken out of service (log 58), how a later part fares while COMMISSIONED (log 17) and the
refiltered timings (log 23) are the model's reading; STRAP_CLAMPED becomes clear, as R129 has it, where R67 holds it
absent (the model's choice, log 64). -/
def Obligations.StructuralTablesAreWritten : Prop :=
  ∀ (s : State) (f : Frame) (rest : List Frame),
    let heat := fun (x : Tank) (m : Option Product) =>
      match m, x.source with
      | none, _ => none
      | some m, .default => some m.defaultTemp
      | some _, .sample => x.applied.or (x.lastTemp.map (fun v => max (-500) (min 800 v)))
    (s.mgt.commission = .uncommissioned →
      (∀ (p : Fin 6) (x : Option Product) (body : List Byte), Requested s f rest 2 0x01 p.val body →
        (∀ y, x = some y → body = productBytes y ∧ y.beta ≤ 2000 ∧ -500 ≤ y.defaultTemp ∧ y.defaultTemp ≤ 800 ∧
          y.minDispense ≤ 100000 ∧ y.slowDown ≤ 1000000) →
        (x = none → ∃ more, body = 0 :: more ∧ more.length = 11) →
          Serves .productWrite s f rest 0 [] [.vau, .tks] (fun t =>
            (∀ j, t.product j = if j = p then x else s.product j) ∧
            t.vau.undefined = upd s.vau.undefined p (if x = none then body else []) ∧
            ∀ k c, (s.tank k).config = some c → c.product = p →
              (t.tank k).applied = heat (s.tank k) x ∧ (t.tank k).source = (s.tank k).source ∧
                (t.tank k).config = some c)) ∧
      (∀ (k : Fin 8) (c : Option TankConfig) (body : List Byte), Requested s f rest 2 0x02 k.val body →
        (∀ y, c = some y → body = tankConfigBytes c ∧ 1 ≤ y.capacity ∧ y.capacity ≤ 4000000000 ∧ y.gauge ≤ 62 ∧
          y.highHigh ≤ 1000000 ∧ y.safeFill ≤ 4000000000 ∧ y.low ≤ 4000000000 ∧ y.lockout ≤ 4000000000 ∧
          y.lossThreshold ≤ 4000000000) →
        (c = none → ∃ more, body = 0 :: more ∧ more.length = 25) →
          Serves .tankWrite s f rest 0 [] [.tks] (fun t =>
            (t.tank k).config = c ∧ (t.tank k).observed = none ∧ (t.tank k).gaugedNet = none ∧
            (t.tank k).strapClamped = false ∧ (t.tank k).strap = (s.tank k).strap ∧
            (t.tank k).book = (s.tank k).book ∧
            (t.tank k).applied = heat (s.tank k) (c.bind (fun y => s.product y.product)) ∧
            ∀ j, j ≠ k → t.tank j = s.tank j)) ∧
      (∀ (k : Fin 8) (ps : List StrapPoint), (∀ x ∈ ps, x.level ≤ 1000000 ∧ x.volume ≤ 4000000000) →
        let taken := Serves .strappingWrite s f rest 0 [] [.tks, .mgt] (fun t =>
          t.tank k = { s.tank k with strap := some ps, observed := none, gaugedNet := none, strapClamped := false } ∧
          (∀ j, j ≠ k → t.tank j = s.tank j) ∧ t.mgt = { s.mgt with assembly := none })
        let parts := fun (n : Nat) => some ({
          object := .strapping, index := k.val, parts := n,
          bytes := BitVec.ofNat 8 ps.length :: (ps.take (12 * n)).flatMap strapPointBytes } : Assembly)
        let kept := fun (n : Nat) => Serves .strappingWrite s f rest 0 [] [.mgt] (fun t =>
          t.mgt = { s.mgt with assembly := parts n })
        (Requested s f rest 2 0x03 k.val ([1, BitVec.ofNat 8 ps.length] ++ (ps.take 12).flatMap strapPointBytes) →
          (2 ≤ ps.length → ps.length ≤ 12 → taken) ∧ (12 < ps.length → ps.length ≤ 32 → kept 1)) ∧
        ∀ n, n = 2 ∨ n = 3 → s.mgt.assembly = parts (n - 1) → 12 * (n - 1) < ps.length → ps.length ≤ 32 →
          Requested s f rest 2 0x03 k.val
            (BitVec.ofNat 8 n :: ((ps.drop (12 * (n - 1))).take 12).flatMap strapPointBytes) →
            (ps.length ≤ 12 * n → taken) ∧ (12 * n < ps.length → kept n)) ∧
      (∀ (p : Fin 8) (c : Option PointConfig) (body : List Byte), Requested s f rest 2 0x04 p.val body →
        (∀ y, c = some y → body = pointConfigBytes y ∧ y.reader ≤ 62 ∧ y.panel ≤ 62 ∧ y.maxFlow ≤ 600000000 ∧
          y.stopLead ≤ 2000 ∧ y.tolerance ≤ 1000000) →
        (c = none → ∃ more, body = 0 :: more ∧ more.length = 15) →
          Serves .tableWrite s f rest 0 [] [.dpt] (fun t =>
            t.dpt = (s.setPoint p { s.point p with config := c, idle := if c = none then body else [] }).dpt)) ∧
      (∀ (k : Fin 4) (b : Bool), Requested s f rest 2 0x05 k.val (flagByte b) →
        Serves .tableWrite s f rest 0 [] [.dpt] (fun t => t.dpt = (s.setPump k { s.pump k with fitted := b }).dpt)) ∧
      (∀ (k : Fin 8) (c : ChannelConfig), Requested s f rest 2 0x06 k.val ([c.mode.code] ++ flagByte c.invert ++
          beBytes 1 c.glitch ++ beBytes 3 c.k ++ beBytes 3 c.creepLimit) →
        c.glitch ≤ 255 → (c.k = 0 ∨ (1000 ≤ c.k ∧ c.k ≤ 4000000)) → c.creepLimit ≤ 1000000 →
          let x := s.channel k
          Serves .tableWrite s f rest 0 [] [.mtc] (fun t => t.mtc = (s.setChannel k { x with
            config := c, inputA := x.inputA.refilter x.config.glitch c.glitch s.clock,
            inputB := x.inputB.refilter x.config.glitch c.glitch s.clock,
            flow := if c.k = 0 then none else x.flow }).mtc))) ∧
    (s.mgt.commission = .commissioned → ∀ i params,
      (Requested s f rest 2 0x01 i params → params.length = 12 →
        Serves .productWrite s f rest 3 [] [] (fun _ => True)) ∧
      (Requested s f rest 2 0x02 i params → params.length = 26 →
        Serves .tankWrite s f rest 3 [] [] (fun _ => True)) ∧
      (∀ body, Requested s f rest 2 0x03 i (1 :: body) → body.length = 1 + 8 * min 12 (num body 0 1) →
        Serves .strappingWrite s f rest 3 [] [.mgt] (fun t => t.mgt = { s.mgt with assembly := none })) ∧
      (∀ (n : Nat) (body : List Byte) (a : Assembly), n = 2 ∨ n = 3 →
        Requested s f rest 2 0x03 i (BitVec.ofNat 8 n :: body) → s.mgt.assembly = some a →
        a.object = .strapping → a.index = i → n = a.parts + 1 → n = 3 ∨ num a.bytes 0 1 ≤ 24 →
        body.length = 8 * min (if n = 3 then 8 else 12) (num a.bytes 0 1 - 12 * (n - 1)) →
          Serves .strappingWrite s f rest 3 [] [.mgt] (fun t => t.mgt = { s.mgt with assembly := none })) ∧
      (Requested s f rest 2 0x04 i params → params.length = 16 →
        Serves .tableWrite s f rest 3 [] [] (fun _ => True)) ∧
      (Requested s f rest 2 0x05 i params → params.length = 1 →
        Serves .tableWrite s f rest 3 [] [] (fun _ => True)) ∧
      (Requested s f rest 2 0x06 i params → params.length = 9 →
        Serves .tableWrite s f rest 3 [] [] (fun _ => True))) ∧
    ∀ (i : Nat) (part : Byte) (body : List Byte), Requested s f rest 2 0x03 i (part :: body) → part ≠ 1 →
      let continues := fun (a : Assembly) => a.object = .strapping ∧ a.index = i ∧ part.toNat = a.parts + 1
      ((∀ a, s.mgt.assembly = some a → ¬continues a) →
        Serves .strappingWrite s f rest 8 [] [.mgt] (fun t => t.mgt = { s.mgt with assembly := none })) ∧
      ∀ a, s.mgt.assembly = some a → continues a → part = 2 → 24 < num a.bytes 0 1 → body.length = 96 →
        Serves .strappingWrite s f rest 0 [] [.mgt] (fun t => t.mgt = { s.mgt with
          assembly := some { a with parts := 2, bytes := a.bytes ++ body } })

/-- A write of a class, a classifier entry, a poll list entry, a delivery order, a spill input, a sump or a bay
parameter in its ranges takes effect in either commission state. A rewritten poll entry keeps the data time of the
address it held; the data of an address it no longer holds is stale at once, which is reported where it was fresh; and
an UNUSED entry keeps and returns the fields it was written with. A spill input and a sump are judged afresh; a bay
parameter answers the value it replaced. The layouts (log 12), the codes of the two dispositions (log 13), what an entry
or a record with its first flag clear keeps (log 11) and that a debounce of 0 gives the condition at once (log 27) are
the model's reading; that POLL_LIST_WRITE takes a READ of the poll list (log 3) and that a sump with no station may have
its levels in any order (log 53) are its choice, as are the status of an index that names no parameter (log 62) and a
link silence timer in whole ms (log 1). -/
def Obligations.OtherTablesAreWritten : Prop :=
  ∀ (s : State) (f : Frame) (rest : List Frame),
    (∀ (k : Fin 16) (c : ClassRecord), Requested s f rest 2 0x09 k.val (classBytes c) → c.maxFill ≤ 4000000000 →
      c.offlineCap ≤ 4000000000 → c.tolerance ≤ 10000 → 1 ≤ c.minSpan → c.minSpan ≤ 10000 → c.bandMin ≤ c.bandMax →
      c.bandMax ≤ 65535 →
        Serves .tableWrite s f rest 0 [] [.mac] (fun t => t.mac.accounts = s.mac.accounts ∧
          ∀ j, t.cls j = if j = k then c else s.cls j)) ∧
    (∀ (k : Fin 32) (e : ClassifierEntry), Requested s f rest 2 0x07 k.val (classifierBytes e) →
      1 ≤ e.segments.length → e.segments.length ≤ 3 →
      (∀ x ∈ e.segments, x.offset ≤ 127 ∧ 1 ≤ x.mask.length ∧ x.mask.length ≤ 4 ∧ x.value.length = x.mask.length ∧
        ∀ i, i < x.mask.length → x.value.getD i 0 &&& ~~~(x.mask.getD i 0) = 0) →
      e.roleBase ≤ 32 → (e.role = none → e.disposition = .pass ∨ e.disposition = .drop) →
      (e.direction = .fromSite → e.role = none) →
        Serves .tableWrite s f rest 0 [] [.fcl] (fun t =>
          t.fcl = { table := upd s.fcl.table k (some e), invalid := upd s.fcl.invalid k [] })) ∧
    (∀ (k : Fin 32) (more : List Byte), Requested s f rest 2 0x07 k.val (0 :: more) →
      (0 :: more).length = classifierLength (0 :: more) →
        Serves .tableWrite s f rest 0 [] [.fcl] (fun t =>
          t.fcl = { table := upd s.fcl.table k none, invalid := upd s.fcl.invalid k (0 :: more) })) ∧
    (s.fsm.exchange = none → s.fsm.lrq = false → s.tks.lockouts = [] → ∀ k : Fin 32,
      let stale := fun (t : State) (station : Nat) =>
        (∀ j c, (s.tank j).config = some c →
          (t.tank j).gauge = if c.gauge = station then .stale else (s.tank j).gauge) ∧
        ∀ j, s.mgt.commission = .commissioned → (s.sump j).config.station = station → station ≠ 0 →
          (t.sump j).stale = true
      let left := fun (t : State) (o : PollEntry) =>
        (o.reportedFresh = true → stale t o.station) ∧ (o.reportedFresh = false → OnlyBlocks [.spt, .fsm] s t)
      (∀ x : PollEntry, Requested s f rest 2 0x08 k.val (beBytes 1 x.station ++ [x.formats] ++
          beBytes 2 x.interval ++ beBytes 2 x.staleness ++ beBytes 2 x.recallAge ++ flagByte x.critical) →
        1 ≤ x.station → x.station ≤ 62 → 1 ≤ x.formats.toNat → x.formats.toNat ≤ 7 → 100 ≤ x.interval →
        x.interval ≤ 60000 → 1 ≤ x.staleness → x.staleness ≤ 600 → x.recallAge ≤ 600 →
        (∀ j y, j ≠ k → s.entry j = some y → y.station ≠ x.station) →
          let fresh := { x with
            state := EntryState.absent, format := none, legacy := false, caps := none, stationType := none,
            matchCount := 0, ackCount := 0, legacyCount := 0, missCount := 0, dueTime := s.ms, due := true,
            dataTime := none, reportedFresh := false }
          (s.entry k = none →
            Serves .pollListWrite s f rest 0 [] [.fsm] (fun t => t.fsm =
              { s.fsm with entries := upd s.fsm.entries k (some fresh), unused := upd s.fsm.unused k [] })) ∧
          (∀ o, s.entry k = some o → o.station = x.station →
            (o.reportedFresh = true ↔ ∃ d, o.dataTime = some d ∧ s.ms - d ≤ x.staleness * 1000) →
              Serves .pollListWrite s f rest 0 [] [.fsm] (fun t => t.fsm = { s.fsm with
                entries := upd s.fsm.entries k (some { fresh with
                  dataTime := o.dataTime, reportedFresh := o.reportedFresh }),
                unused := upd s.fsm.unused k [] })) ∧
          ∀ o, s.entry k = some o → o.station ≠ x.station →
            ∃ t, exec .pollListWrite s = .next t ∧ Answered s t f rest 0 [] ∧ left t o ∧
              t.fsm.unused = upd s.fsm.unused k [] ∧
              ∀ j, t.entry j = if j = k then some fresh else s.entry j) ∧
      (∀ more, Requested s f rest 2 0x08 k.val (0 :: more) → more.length = 8 →
        ∃ t, exec .pollListWrite s = .next t ∧ Answered s t f rest 0 [] ∧
          (∀ o, s.entry k = some o → left t o) ∧
          (s.entry k = none → OnlyBlocks [.spt, .fsm] s t) ∧ t.fsm.unused = upd s.fsm.unused k (0 :: more) ∧
          ∀ j, t.entry j = if j = k then none else s.entry j) ∧
      (Requested s f rest 1 0x08 k.val [] → s.entry k = none →
        Serves .pollListWrite s f rest 0 (s.fsm.unused[k.val] ++ unusedLiveBytes) [] (fun _ => True))) ∧
    (∀ (k : Fin 16) (reference tanker : Nat) (tank : Fin 8) (product : Fin 6) (ordered : Nat),
      Requested s f rest 2 0x0B k.val (beBytes 2 reference ++ beBytes 4 tanker ++
        [byte tank.val, byte product.val] ++ beBytes 4 ordered) →
      1 ≤ reference → reference ≤ 65535 → 1 ≤ tanker → tanker ≤ 4294967295 → 1 ≤ ordered → ordered ≤ 4000000000 →
      (∀ x, s.order k = some x → x.state ≠ .active) →
      (∀ j x, j ≠ k → s.order j = some x → x.reference ≠ reference) →
        Serves .deliveryOrderWrite s f rest 0 [] [.tks] (fun t => t.tks = (s.setOrder k (some {
          reference := reference, tanker := tanker, tank := tank, product := product, ordered := ordered,
          state := .pending, permitted := 0, gross := 0, net := 0, posted := 0, lastTemp := 0, startTime := 0,
          startValid := false, endTime := 0, endCause := none, record := none })).tks)) ∧
    (∀ (i : Fin 8) (enabled activeLow : Bool) (debounce : Nat) (l : Level), Requested s f rest 2 0x0C i.val
        (flagByte enabled ++ [if activeLow then 2 else 1] ++ beBytes 2 debounce ++ [l.code]) →
      debounce ≤ 2000 → l ≠ .normal →
      let y := { s.spill i with enabled := enabled, activeLow := activeLow, debounce := debounce, level := l }
      let wet := enabled = true ∧ (s.spill i).raw ≠ activeLow
      let alone := fun (z : Spill) =>
        Serves .spillInputWrite s f rest 0 [] [.ssd] (fun t => t.ssd = (s.setSpill i z).ssd)
      let changed := fun (present : Bool) (P : State → Prop) =>
        Serves .spillInputWrite s f rest 0 [] [.ssd, .jev, .dpt, .fsm, .tks] (fun t =>
          t.spill i = { y with present := present, timing := none } ∧ P t ∧
          (∀ c, c ≠ .spill i → t.cause c = s.cause c) ∧ (LevelIsHighest s → LevelIsHighest t))
      (¬wet → (s.spill i).present = false → alone { y with timing := none }) ∧
      (¬wet → (s.spill i).present = true → changed false (fun t =>
        ∀ e, s.cause (.spill i) = some e → t.cause (.spill i) = some { e with active := false })) ∧
      (wet → debounce ≠ 0 → alone { y with timing := some s.clock }) ∧
      (wet → debounce = 0 → (s.spill i).present = true → alone { y with timing := none }) ∧
      (wet → debounce = 0 → (s.spill i).present = false → changed true (fun t =>
        (s.cause (.spill i) = none → t.cause (.spill i) = some { active := true, level := l }) ∧
        ∀ e, s.cause (.spill i) = some e → e.active = false →
          t.cause (.spill i) = some { active := true, level := e.level.higher l }))) ∧
    (∀ (k : Fin 4) (c : SumpConfig), Requested s f rest 2 0x0D k.val
        (beBytes 1 c.station ++ beBytes 3 c.high ++ beBytes 3 c.highHigh) →
      c.station ≤ 62 → c.high ≤ 16777215 → c.highHigh ≤ 16777215 →
      (c.station ≠ 0 → c.high ≤ c.highHigh ∧ c.highHigh ≤ 1000000) →
        let left := if c.station = (s.sump k).config.station ∧ c.station ≠ 0 then (s.sump k).lastLevel else none
        Serves .sumpWrite s f rest 0 [] [.ssd, .jev, .dpt, .fsm, .tks] (fun t =>
          (t.sump k).config = c ∧ (t.sump k).lastLevel = left ∧
          ((t.sump k).high = true ↔ ∃ l, left = some l ∧ c.high ≤ l) ∧
          ((t.sump k).highHigh = true ↔ ∃ l, left = some l ∧ c.highHigh ≤ l) ∧
          ((t.sump k).stale = true ↔ s.mgt.commission = .commissioned ∧ c.station ≠ 0 ∧
            ∀ e x d, s.entry e = some x → x.station = c.station → x.dataTime = some d →
              x.staleness * 1000 < s.ms - d) ∧
          (∀ j, j ≠ k → t.sump j = s.sump j) ∧
          (∀ j, j ≠ .sumpHigh k → j ≠ .sumpHighHigh k → j ≠ .sumpStale k → t.cause j = s.cause j) ∧
          (LevelIsHighest s → LevelIsHighest t))) ∧
    (∀ (i : Nat) (body data : List Byte) (params : Params),
      Requested s f rest 2 0x0E i body →
      let p := s.mgt.params
      ((∃ b : Bool, i = 1 ∧ body = [if b then 1 else 2] ∧ data = [if p.fieldPass then 1 else 2] ∧
          params = { p with fieldPass := b }) ∨
        (∃ b : Bool, i = 2 ∧ body = [if b then 1 else 2] ∧ data = [if p.sitePass then 1 else 2] ∧
          params = { p with sitePass := b }) ∨
        (∃ b : Bool, i = 3 ∧ s.fsm.lrq = false ∧ body = flagByte b ∧ data = flagByte p.loanEnable ∧
          params = { p with loanEnable := b }) ∨
        (∃ v, i = 4 ∧ v ≤ 3600 ∧ body = beBytes 2 v ∧ data = beBytes 2 p.loanLimit ∧
          params = { p with loanLimit := v }) ∨
        (∃ v, i = 5 ∧ 1 ≤ v ∧ v ≤ 60 ∧ body = beBytes 1 v ∧ data = beBytes 1 p.recallTimeout ∧
          params = { p with recallTimeout := v }) ∨
        (∃ v, i = 6 ∧ 10 ≤ v ∧ v ≤ 600 ∧ body = beBytes 2 v ∧ data = beBytes 2 p.authTimeout ∧
          params = { p with authTimeout := v }) ∨
        (∃ v, i = 7 ∧ 10 ≤ v ∧ v ≤ 600 ∧ body = beBytes 2 v ∧ data = beBytes 2 p.noFlowTime ∧
          params = { p with noFlowTime := v }) ∨
        ∃ v, i = 8 ∧ (v = 0 ∨ (5 ≤ v ∧ v ≤ 600)) ∧ body = beBytes 2 v ∧ data = beBytes 2 p.linkSilence ∧
          params = { p with linkSilence := v }) →
        Serves .bayParameterWrite s f rest 0 data [.mgt] (fun t => t.mgt = { s.mgt with
          params := params,
          silenceDue := if i ≠ 8 then s.mgt.silenceDue else if params.linkSilence = 0 then none
            else some (s.ms + params.linkSilence * 1000) })) ∧
    ∀ i body, Requested s f rest 2 0x0E i body → i = 0 ∨ 8 < i →
      Serves .bayParameterWrite s f rest 4 [] [] (fun _ => True)

/-! ### Spill and shutdown (chapter 9) -/

/-- A wet level of an enabled spill input starts its debounce, whose end makes the condition present, its cause ACTIVE
and the bay level at least the input's; a loop that changes is timed, and one open for its hold time makes its cause
ACTIVE at ISOLATE; the horn's pattern turns over each second at BAY_STOP while it is not silenced. -/
def Obligations.ShutdownInputs : Prop :=
  (∀ (s : State) (i : Fin 8) (high : Bool), (s.spill i).enabled = true → (s.spill i).present = false →
    (high = (s.spill i).activeLow → exec (.spillInputChange i high) s =
      .next (s.setSpill i { s.spill i with raw := high, timing := none })) ∧
    (high ≠ (s.spill i).activeLow → (s.spill i).timing = none → (s.spill i).debounce ≠ 0 →
      exec (.spillInputChange i high) s =
        .next (s.setSpill i { s.spill i with raw := high, timing := some s.clock }))) ∧
  (∀ (s : State) (i : Fin 8) (t0 : Nat), LevelIsHighest s → (s.spill i).timing = some t0 →
    (s.spill i).enabled = true → (s.spill i).raw ≠ (s.spill i).activeLow → (s.spill i).present = false →
    t0 + (s.spill i).debounce * 1000 ≤ s.clock →
    (∀ e, s.cause (.spill i) = some e → e.active = false) →
      ∃ t e, exec (.spillDebounceExpiry i) s = .next t ∧
        t.spill i = { s.spill i with present := true, timing := none } ∧
        t.cause (.spill i) = some e ∧ e.active = true ∧
        (s.cause (.spill i) = none → e.level = (s.spill i).level) ∧
        (∀ o, s.cause (.spill i) = some o → e.level = o.level.higher (s.spill i).level) ∧
        (∀ c, c ≠ .spill i → t.cause c = s.cause c) ∧ LevelIsHighest t) ∧
  (∀ (s : State) (l : Fin 2) (isOpen : Bool), exec (.estopLoopChange l isOpen) s =
    .next (s.setLoop l { s.loop l with
      isOpen := isOpen,
      timing := if isOpen = (s.loop l).present then none else some ((s.loop l).timing.getD s.clock) })) ∧
  (∀ (s : State) (l : Fin 2) (t0 : Nat), LevelIsHighest s → (s.loop l).timing = some t0 → (s.loop l).isOpen = true →
    (s.loop l).present = false → t0 + 10000 ≤ s.clock →
    (∀ e, s.cause (.estop l) = some e → e.active = false) →
      ∃ t, exec (.estopTimerExpiry l) s = .next t ∧ t.loop l = { s.loop l with present := true, timing := none } ∧
        t.cause (.estop l) = some { active := true, level := .isolate } ∧
        (∀ c, c ≠ .estop l → t.cause c = s.cause c) ∧ t.ssd.level = .isolate ∧
        (WorkReserved s → s.ssd.level ≠ .isolate → ∀ k, (t.tank k).delivery = none)) ∧
  ∀ s : State, s.ssd.level = .bayStop → s.ssd.silenced = false → s.ssd.hornDue ≤ s.clock →
    exec .hornPulseToggle s =
      .next (s.setSsd { s.ssd with hornOn := !s.ssd.hornOn, hornDue := s.ssd.hornDue + 1000000 })

/-- SITE_STOP makes its entry, LATCHED at the level it carries, and answers the bay level; SHUTDOWN_CLEAR removes
every LATCHED entry and keeps every ACTIVE one, answering how many of each; HORN_SILENCE silences the horn while the
bay level is not NORMAL. That their index is not examined is the model's choice (log 3). -/
def Obligations.ShutdownRequests : Prop :=
  ∀ (s : State) (f : Frame) (rest : List Frame) (i : Nat),
    (∀ l : Level, Requested s f rest 3 0x36 i [l.code] → l ≠ .normal → LevelIsHighest s →
      s.cause .siteStop = none →
        ∃ t, exec .siteStop s = .next t ∧ Answered s t f rest 0 [t.ssd.level.code] ∧
          t.cause .siteStop = some { active := false, level := l } ∧
          (∀ c, c ≠ .siteStop → t.cause c = s.cause c) ∧ t.ssd.level = s.ssd.level.higher l ∧
          t.ssd.silenced = false ∧
          (s.ssd.level = .normal → ∀ p, (t.point p).state.running = false) ∧ t.mtc = s.mtc ∧ t.mac = s.mac) ∧
    (Requested s f rest 3 0x35 i [] →
      ∃ t n m, exec .shutdownClear s = .next t ∧ Answered s t f rest 0 [BitVec.ofNat 8 n, BitVec.ofNat 8 m] ∧
        n = allCauses.countP (fun c => decide ((s.cause c).map (·.active) = some false)) ∧
        m = allCauses.countP (fun c => decide ((s.cause c).map (·.active) = some true)) ∧
        (∀ c, t.cause c = match s.cause c with
          | none => none
          | some e => if e.active then some e else none) ∧ LevelIsHighest t) ∧
    (Requested s f rest 3 0x37 i [] →
      (s.ssd.level = .normal → Serves .hornSilence s f rest 8 [] [] (fun _ => True)) ∧
      (s.ssd.level ≠ .normal → Serves .hornSilence s f rest 0 [] [.ssd] (fun t =>
        t.ssd = { s.ssd with silenced := true } ∧ t.horn = false)))

/-! ### Journal, events and counters (chapter 10) -/

/-- JOURNAL_READ returns the oldest one or two records and removes none; JOURNAL_RELEASE keeps exactly the records
numbered above the number it carries, answers how many it removed, and reports room after a full journal. EVENT_MASK
replaces the eight masks and answers the old ones, leaving the pending flags; EVENT_PENDING_READ answers the nine flags
and clears them; COUNTERS_READ answers one counter set and clears it, and no other set. The numbers of the counter sets
and the layouts (logs 13 and 14), GROUP_PENDING's source among them, are the model's reading, and that the index of
these requests is not examined its choice (log 3). -/
def Obligations.JournalAndEventRequests : Prop :=
  ∀ (s : State) (f : Frame) (rest : List Frame) (i : Nat),
    (∀ n, Requested s f rest 3 0x30 i [BitVec.ofNat 8 n] → n = 1 ∨ n = 2 →
      Serves .journalRead s f rest 0 (beBytes 2 s.jev.journal.length ++ beBytes 2 s.jev.reserved ++
        beBytes 1 (min n s.jev.journal.length) ++ (s.jev.journal.take n).flatMap Record.bytes) []
        (fun _ => True)) ∧
    (∀ n, Requested s f rest 3 0x31 i (beBytes 4 n) → n ≤ 4294967295 → JournalNumbered s →
      let left := s.jev.journal.filter (fun r => decide (n < r.number))
      let removed := s.jev.journal.length - left.length
      let j := { s.jev with journal := left }
      Serves .journalRelease s f rest 0 (beBytes 2 removed) [.jev] (fun t =>
        ((removed = 0 ∨ s.jev.fullReported = false ∨ s.jev.spent = true ∨
          4294967295 < s.jev.nextNumber + s.jev.reserved) → t.jev = j) ∧
        (0 < removed → s.jev.fullReported = true → s.jev.spent = false →
          s.jev.nextNumber + s.jev.reserved ≤ 4294967295 →
          t.jev = ({ j with fullReported := false } : Jev).take {
            kind := .journalRoom, source := 0xFFFF, uptime := s.uptime,
            detail := beBytes 2 left.length ++ beBytes 2 s.jev.reserved ++ [0, 0, 0, 0] }))) ∧
    (∀ m : Fin 8 → Bool, Requested s f rest 3 0x32 i (all8.flatMap (fun g => flagByte (m g))) →
      Serves .eventMask s f rest 0 (all8.flatMap (fun g => flagByte s.jev.masks[g.val])) [.jev] (fun t =>
        (∀ g : Fin 8, t.jev.masks[g.val] = m g) ∧ t.jev.pendings = s.jev.pendings ∧
        t.jev.journal = s.jev.journal ∧
        ((∀ g : Fin 8, s.jev.masks[g.val] = true → m g = false → s.jev.pendings[g.val] = false) →
          t.jev.queue = s.jev.queue ∧ t.jev.lost = s.jev.lost) ∧
        ∀ g : Fin 8, s.jev.queue.length < 25 → s.jev.masks[g.val] = true → m g = false →
          s.jev.pendings[g.val] = true →
            ∃ e ∈ t.jev.queue, e.kind = .groupPending ∧ e.source = g.val + 1)) ∧
    (Requested s f rest 3 0x33 i [] →
      Serves .eventPendingRead s f rest 0 (all8.flatMap (fun g => flagByte s.jev.pendings[g.val]) ++
        flagByte s.jev.lost) [.jev] (fun t =>
          t.jev = { s.jev with pendings := Vector.replicate 8 false, lost := false })) ∧
    (Requested s f rest 3 0x34 i [1] →
      ∃ t, exec .countersRead s = .next t ∧ OnlyBlocks [.spt] s t ∧ t.spt.rx = rest ∧
        t.spt.counters = Reset.siteCounters ∧
        t.spt.tx = s.spt.tx ++ [makeFrame (frameSource f) 0x21 ((framePayload f).take 5 ++ [0] ++
          [s.spt.counters.received, s.spt.counters.checkErrors, s.spt.counters.lengthErrors,
            s.spt.counters.framingErrors, s.spt.counters.overruns, s.spt.counters.drops].flatMap (beBytes 2))]) ∧
    (Requested s f rest 3 0x34 i [2] →
      Serves .countersRead s f rest 0 (fieldCounterBytes s.fsm.counters) [.fsm] (fun t =>
        t.fsm = { s.fsm with counters := Reset.fieldCounters })) ∧
    (Requested s f rest 3 0x34 i [3] →
      Serves .countersRead s f rest 0 (all8.flatMap (fun c => beBytes 2 (s.channel c).phaseErrors)) [.mtc] (fun t =>
        t.mtc = { s.mtc with channels := t.mtc.channels } ∧
          ∀ c, t.channel c = { s.channel c with phaseErrors := 0 }))

/-! ### Prover (section 3.6) -/

/-- PROVER_ARM arms the channel it names, or none, and leaves the capture record; any other index is refused; a value
captured stays with its channel until PROVER_READ empties the record or a reset does; no channel is armed after any
reset. -/
def Obligations.ProverIsArmed : Prop :=
  (∀ (s : State) (f : Frame) (rest : List Frame) (i : Nat), Requested s f rest 3 0x38 i [] →
    (∀ h : i < 8, Serves .proverArm s f rest 0 [] [.mtc] (fun t => t.mtc = { s.mtc with armed := some ⟨i, h⟩ })) ∧
    (i = 0xFFFF → Serves .proverArm s f rest 0 [] [.mtc] (fun t => t.mtc = { s.mtc with armed := none })) ∧
    (8 ≤ i → i ≠ 0xFFFF → Serves .proverArm s f rest 2 [] [] (fun _ => True))) ∧
  (∀ (c : Instr) (s t : State) (r : Capture), s.mtc.capture = some r → c ≠ .proverRead → c ≠ .powerOn →
    c ≠ .lineReset → (∀ d, c ≠ .softResetTaken d) → exec c s = .next t →
      ∃ q, t.mtc.capture = some q ∧ q.channel = r.channel ∧ q.value = r.value ∧ q.uptime = r.uptime) ∧
  ∀ (s t : State),
    (exec .powerOn s = .next t → t.mtc.armed = none) ∧ (exec .lineReset s = .next t → t.mtc.armed = none) ∧
      ∀ d, s.mgt.softReset = some 0 → exec (.softResetTaken d) s = .next t → t.mtc.armed = none

/-! ### Management (chapter 11) -/

/-- PROVER_READ answers the capture record and empties it; STATUS_READ answers and changes nothing; SOFT_RESET
answers and waits for the frames ahead and its own response; STATION_REARM makes an entry in use ABSENT with its live
fields reset, its data time kept, and due at once. A rearm during an exchange or with LRQ asserted is left out. The layouts
are the model's reading (logs 13 and 57), and that the index of the first three is not examined its choice (log 3). -/
def Obligations.OtherRequests : Prop :=
  ∀ (s : State) (f : Frame) (rest : List Frame) (i : Nat),
    (Requested s f rest 3 0x39 i [] →
      (s.mtc.capture = none → Serves .proverRead s f rest 0 [0, 0] [] (fun _ => True)) ∧
      ∀ r, s.mtc.capture = some r → Serves .proverRead s f rest 0 ([BitVec.ofNat 8 r.channel.val] ++
        beBytes 4 r.value.toNat ++ beBytes 6 r.uptime ++ [1] ++ flagByte r.overrun) [.mtc]
          (fun t => t.mtc = { s.mtc with capture := none })) ∧
    (Requested s f rest 3 0x3E i [] → Serves .statusRead s f rest 0
      ([s.mgt.commission.code, if s.mgt.online then 1 else 2] ++ beBytes 2 s.mgt.params.linkSilence ++
        flagByte s.mgt.timeValid ++ beBytes 4 s.mgt.wall.toNat ++ beBytes 6 (s.clock / 1000) ++
        [s.mgt.resetKind.code] ++ beBytes 1 s.mgt.lineResets ++ beBytes 1 s.mgt.softResets ++
        beBytes 2 s.jev.journal.length ++ beBytes 2 s.jev.reserved ++ flagByte s.jev.fullReported ++
        flagByte s.jev.lost ++ [s.fsm.loan.code] ++ flagByte s.fsm.lrq ++ flagByte s.fsm.recalled ++
        flagByte s.fsm.overrun ++ [s.ssd.level.code] ++ flagByte s.ssd.silenced ++
        allCauses.map (fun k => causeByte (s.cause k))) [] (fun _ => True)) ∧
    (Requested s f rest 3 0x3D i [] → Serves .softReset s f rest 0 [] [.mgt] (fun t =>
      t.mgt = { s.mgt with softReset := some t.spt.tx.length })) ∧
    ∀ (e : Fin 32) (x : PollEntry), Requested s f rest 3 0x3A e.val [] → s.entry e = some x →
      s.fsm.exchange = none → s.fsm.lrq = false →
        Serves .stationRearm s f rest 0 [] [.fsm] (fun t => t.fsm = (s.setEntry e (some { x with
          state := .absent, format := none, legacy := false, caps := none, stationType := none, matchCount := 0,
          ackCount := 0, legacyCount := 0, missCount := 0, dueTime := s.ms, due := true })).fsm)

/-- The link silence timer's end makes the link OFFLINE and stops the timer; the wall clock counts its seconds, wrapping
at 32 bits; TIME_SET sets the wall time from now and answers the one it replaced, or absent. The layout of the old time
(log 13) and the silence that OFFLINE carries (log 14) are the model's reading, and that TIME_SET's index is not
examined its choice (log 3), as is a timer reckoned in whole ms (log 1). -/
def Obligations.ClockAndLink : Prop :=
  (∀ (s : State) (d : Nat), s.mgt.silenceDue = some d → s.mgt.online = true → d ≤ s.ms →
    exec .linkSilenceExpiry s = .next
      ((s.setMgt { s.mgt with online := false, silenceDue := none, offlineSince := s.ms }).raise .offline 0xFFFF
        (beBytes 4 s.mgt.params.linkSilence))) ∧
  (∀ s : State, s.mgt.timeValid = true → s.mgt.wallDue ≤ s.clock →
    exec .wallClockTick s =
      .next (s.setMgt { s.mgt with wall := s.mgt.wall + 1, wallDue := s.mgt.wallDue + 1000000 })) ∧
  ∀ (s : State) (f : Frame) (rest : List Frame) (i : Nat) (w : BitVec 32),
    Requested s f rest 3 0x22 i (beBytes 4 w.toNat) →
      Serves .timeSet s f rest 0
        (if s.mgt.timeValid then 1 :: beBytes 4 s.mgt.wall.toNat else [0, 0, 0, 0, 0]) [.mgt] (fun t =>
          t.mgt = { s.mgt with wall := w, timeValid := true, wallDue := s.clock + 1000000 })

/-- COMMISSION of a bay whose checks all pass makes it COMMISSIONED with every point in service IDLE and every tank in
service set up from its gauge; the first check of the products, the channels, the tanks and the points in turn that
fails is answered with the object, the record's index and the code, and changes nothing. DECOMMISSION of a bay with no
work open makes every point UNCOMMISSIONED and every book UNSET; with work open it is refused with BUSY. The index 0 of
NO_PRODUCT and the evaluation of the tanks without an event are the model's reading (log 30), and that the index of both
requests is not examined its choice (log 3). -/
def Obligations.BayIsCommissioned : Prop :=
  ∀ (s : State) (f : Frame) (rest : List Frame) (i : Nat),
    (Requested s f rest 3 0x20 i [] → s.mgt.commission = .uncommissioned → WorkReserved s →
      ((∀ b ∈ s.commissionChecks, ¬b.1) →
        ∃ t, exec .commission s = .next t ∧ Answered s t f rest 0 [] ∧
          t.mgt = { s.mgt with commission := .commissioned } ∧ t.vau = s.vau ∧ t.mac = s.mac ∧ t.srs = s.srs ∧
          t.fcl = s.fcl ∧ t.mtc = s.mtc ∧
          (∀ p, (s.point p).config ≠ none → (t.point p).state = .idle) ∧
          (∀ p, (s.point p).config = none → (t.point p).state = (s.point p).state) ∧
          ∀ k c, (s.tank k).config = some c →
            (t.tank k).committed = 0 ∧ (t.tank k).gainReported = false ∧
            (t.tank k).state = tankStateOf c (t.tank k) ∧
            (∀ g, (s.tank k).gauge = .valid → (s.tank k).gaugedNet = some g →
              (t.tank k).book = some (g : Int) ∧ (t.tank k).baseline = some 0) ∧
            ((s.tank k).gauge ≠ .valid ∨ (s.tank k).gaugedNet = none →
              (t.tank k).book = none ∧ (t.tank k).baseline = none)) ∧
      ∀ e, FirstFailing s.commissionChecks e →
        Serves .commission s f rest 8 ([e.object, BitVec.ofNat 8 e.index, e.code.code] ++
          (e.strapPoint.map (BitVec.ofNat 8)).toList) [] (fun _ => True)) ∧
    (Requested s f rest 3 0x20 i [] → s.mgt.commission = .commissioned →
      Serves .commission s f rest 8 [] [] (fun _ => True)) ∧
    (Requested s f rest 3 0x21 i [] → s.mgt.commission = .commissioned →
      let work := (∃ p, (s.point p).context ≠ none) ∨ (∃ k, (s.tank k).delivery ≠ none) ∨
        ∃ k x, s.slot k = some x ∧ (x.state = .active ∨ x.state = .suspended)
      (work → Serves .decommission s f rest 7 [] [] (fun _ => True)) ∧
      (¬work → ∃ t, exec .decommission s = .next t ∧ Answered s t f rest 0 [] ∧
        t.mgt = { s.mgt with commission := .uncommissioned } ∧ t.vau = s.vau ∧ t.mac = s.mac ∧ t.srs = s.srs ∧
        t.fcl = s.fcl ∧ t.mtc = s.mtc ∧
        (∀ p, (t.point p).state = .uncommissioned ∧ (t.point p).config = (s.point p).config) ∧
        ∀ k, (t.tank k).book = none ∧ (t.tank k).baseline = none ∧ (t.tank k).committed = 0 ∧
          (t.tank k).state = .unset ∧ (t.tank k).config = (s.tank k).config)) ∧
    (Requested s f rest 3 0x21 i [] → s.mgt.commission = .uncommissioned →
      Serves .decommission s f rest 8 [] [] (fun _ => True))

end
end

