-- ==== Sys2Proof/Laws/Bytes.lean ====
section
/-! SUPPORT. What the byte operations give: a number written in bytes reads back as it was, and fields of a list are
found by their offsets. -/

namespace Sys2Proof.Machine

@[simp] theorem beBytes_length (w n : Nat) : (beBytes w n).length = w := by
  induction w generalizing n with
  | zero => rfl
  | succ w ih => simp [beBytes, ih]

@[simp] theorem beBytesInt_length (w : Nat) (i : Int) : (beBytesInt w i).length = w := by simp [beBytesInt]

theorem beNat_snoc (bs : List Byte) (b : Byte) : beNat (bs ++ [b]) = 256 * beNat bs + b.toNat := by
  simp [beNat]

@[simp] theorem beNat_nil : beNat [] = 0 := rfl

@[simp] theorem beNat_singleton (b : Byte) : beNat [b] = b.toNat := by simp [beNat]

/-- Reading back a number written in `w` bytes gives its low `w` bytes. -/
theorem beNat_beBytes_mod (w n : Nat) : beNat (beBytes w n) = n % 256 ^ w := by
  induction w generalizing n with
  | zero => simp [beBytes, Nat.mod_one]
  | succ w ih =>
    have hp : 256 ^ (w + 1) = 256 * 256 ^ w := by rw [Nat.pow_succ, Nat.mul_comm]
    rw [beBytes, beNat_snoc, ih, BitVec.toNat_ofNat, hp, Nat.mod_mul, Nat.add_comm]

/-- Reading back a number that fits in `w` bytes gives the number. -/
theorem beNat_beBytes {w n : Nat} (h : n < 256 ^ w) : beNat (beBytes w n) = n := by
  rw [beNat_beBytes_mod, Nat.mod_eq_of_lt h]

theorem beNat_append (as bs : List Byte) : beNat (as ++ bs) = beNat as * 256 ^ bs.length + beNat bs := by
  have acc : ∀ (bs : List Byte) (n : Nat),
      bs.foldl (fun n b => 256 * n + b.toNat) n = n * 256 ^ bs.length + beNat bs := by
    intro bs
    induction bs with
    | nil => intro n; simp [beNat]
    | cons b bs ih =>
      intro n
      simp only [List.foldl_cons, beNat, List.length_cons]
      rw [ih, ih (256 * 0 + b.toNat), Nat.pow_succ]
      rw [Nat.add_mul, Nat.mul_comm 256 n, Nat.mul_assoc, Nat.mul_comm 256 (256 ^ _)]
      simp [Nat.add_assoc]
  rw [beNat, List.foldl_append, acc]
  rfl

theorem beNat_cons (b : Byte) (bs : List Byte) : beNat (b :: bs) = b.toNat * 256 ^ bs.length + beNat bs := by
  simpa using beNat_append [b] bs

theorem beNat_lt (bs : List Byte) : beNat bs < 256 ^ bs.length := by
  induction bs with
  | nil => simp
  | cons b bs ih =>
    rw [beNat_cons, List.length_cons, Nat.pow_succ]
    have := b.isLt
    have : b.toNat * 256 ^ bs.length ≤ 255 * 256 ^ bs.length := Nat.mul_le_mul_right _ (by omega)
    omega

theorem beBytes_append (k w n m : Nat) (h : m < 256 ^ w) :
    beBytes (k + w) (n * 256 ^ w + m) = beBytes k n ++ beBytes w m := by
  induction w generalizing m with
  | zero => simp at h; simp [h, beBytes]
  | succ w ih =>
    rw [← Nat.add_assoc, beBytes, beBytes, Nat.pow_succ]
    have h1 : (n * (256 ^ w * 256) + m) / 256 = n * 256 ^ w + m / 256 := by
      rw [← Nat.mul_assoc, Nat.add_comm, Nat.add_mul_div_right _ _ (by decide), Nat.add_comm]
    have h2 : m / 256 < 256 ^ w := by rw [Nat.pow_succ] at h; omega
    have h3 : BitVec.ofNat 8 (n * (256 ^ w * 256) + m) = BitVec.ofNat 8 m := by
      apply BitVec.eq_of_toNat_eq
      simp only [BitVec.toNat_ofNat, ← Nat.mul_assoc]
      omega
    rw [h1, h3, ih _ h2, List.append_assoc]

/-- Bytes are the number they spell, written in as many bytes. -/
theorem beBytes_beNat (bs : List Byte) : beBytes bs.length (beNat bs) = bs := by
  induction bs with
  | nil => rfl
  | cons b bs ih =>
    rw [beNat_cons, List.length_cons, Nat.add_comm, beBytes_append 1 _ _ _ (beNat_lt bs), ih]
    simp [beBytes]

/-- Reading back a signed number that fits in `w` bytes gives the number. -/
theorem beInt_beBytesInt {w : Nat} {i : Int} (lo : -(256 ^ w : Nat) ≤ 2 * i) (hi : 2 * i < (256 ^ w : Nat)) :
    beInt (beBytesInt w i) = i := by
  have hp : 0 < 256 ^ w := Nat.pow_pos (by decide)
  have hlen : (beBytesInt w i).length = w := beBytesInt_length w i
  have hv : beNat (beBytesInt w i) = (i % (256 ^ w : Nat)).toNat := by
    rw [beBytesInt, beNat_beBytes]
    have := Int.emod_lt_of_pos i (b := (256 ^ w : Nat)) (by exact_mod_cast hp)
    have := Int.emod_nonneg i (b := (256 ^ w : Nat)) (by omega)
    omega
  rw [beInt, hlen, hv]
  generalize hm : (256 ^ w : Nat) = m at *
  by_cases h : 0 ≤ i
  · have : i % (m : Int) = i := Int.emod_eq_of_lt h (by omega)
    rw [this]
    rw [if_neg (by omega)]
    omega
  · have : i % (m : Int) = i + m := by
      rw [← Int.add_emod_right, Int.emod_eq_of_lt (by omega) (by omega)]
    rw [this, if_pos (by omega)]
    omega

/-! ### Fields of a list -/

/-- A field that begins after a part of known length. -/
theorem slice_append_right (as bs : List Byte) {off w n : Nat} (h : as.length = n) (ho : n ≤ off) :
    slice (as ++ bs) off w = slice bs (off - n) w := by
  subst h
  simp [slice, List.drop_append, List.drop_eq_nil_of_le ho]

/-- A field that lies in the first part. -/
theorem slice_append_left (as bs : List Byte) {off w : Nat} (h : off + w ≤ as.length) :
    slice (as ++ bs) off w = slice as off w := by
  unfold slice
  rw [List.drop_append, List.take_append]
  have h1 : w - (as.drop off).length = 0 := by simp; omega
  rw [h1]
  simp

theorem slice_self (as : List Byte) {w : Nat} (h : as.length = w) : slice as 0 w = as := by
  subst h
  simp [slice]

/-- The chunks of a list laid out item by item are the items. -/
theorem chunks_flatMap {α : Type} (g : α → List Byte) (size : Nat) (l : List α) (tail : List Byte)
    (h : ∀ x, (g x).length = size) : chunks l.length size (l.flatMap g ++ tail) = l.map g := by
  induction l with
  | nil => rfl
  | cons x l ih =>
    simp only [List.flatMap_cons, List.length_cons, chunks, List.map_cons, List.append_assoc]
    rw [List.take_append, List.drop_append, h x]
    simp only [Nat.sub_self, List.take_zero, List.append_nil, List.drop_zero]
    rw [List.take_of_length_le (Nat.le_of_eq (h x)), List.drop_eq_nil_of_le (Nat.le_of_eq (h x)), List.nil_append, ih]

end Sys2Proof.Machine
end

