-- ==== Sys2Proof/Laws/Checks.lean ====
section
/-! SUPPORT. The first check of a list that fails, and what COMMISSION finds, said by the list of its checks. -/

namespace Sys2Proof.Machine

/-- Of a check followed by others, the first that fails is the check itself, or, where it passes, the first of them. -/
theorem firstFailing_cons {α : Type} (c : Prop) (x e : α) (l : List (Prop × α)) :
    FirstFailing ((c, x) :: l) e ↔ (c ∧ e = x) ∨ (¬c ∧ FirstFailing l e) := by
  constructor
  · rintro ⟨before, after, d, h, hd, hb⟩
    cases before with
    | nil =>
      obtain ⟨h, -⟩ := List.cons.inj h
      obtain ⟨rfl, rfl⟩ := Prod.mk.inj h
      exact .inl ⟨hd, rfl⟩
    | cons b before =>
      obtain ⟨rfl, h'⟩ := List.cons.inj h
      exact .inr ⟨hb _ List.mem_cons_self, before, after, d, h', hd, fun b hb' => hb b (List.mem_cons_of_mem _ hb')⟩
  · rintro (⟨hc, rfl⟩ | ⟨hc, before, after, d, rfl, hd, hb⟩)
    · exact ⟨[], l, c, rfl, hc, by simp⟩
    · exact ⟨(c, x) :: before, after, d, rfl, hd, by simpa [hc] using hb⟩

theorem firstFailing_nil {α : Type} (e : α) : ¬FirstFailing [] e := by
  rintro ⟨before, after, c, h, -⟩
  simp at h

theorem firstFailing_append {α : Type} (l m : List (Prop × α)) (e : α) :
    FirstFailing (l ++ m) e ↔ FirstFailing l e ∨ (∀ b ∈ l, ¬b.1) ∧ FirstFailing m e := by
  induction l with
  | nil => simp [firstFailing_nil]
  | cons b l ih =>
    obtain ⟨c, x⟩ := b
    by_cases hc : c <;> simp [firstFailing_cons, ih, hc]

theorem firstFailing_unique {α : Type} {l : List (Prop × α)} {d e : α} (h : FirstFailing l d) (i : FirstFailing l e) :
    d = e := by
  induction l with
  | nil => exact absurd h (firstFailing_nil d)
  | cons b l ih =>
    obtain ⟨c, x⟩ := b
    rcases (firstFailing_cons ..).1 h with ⟨hc, rfl⟩ | ⟨hc, h⟩
    · rcases (firstFailing_cons ..).1 i with ⟨-, rfl⟩ | ⟨hn, -⟩
      · rfl
      · exact absurd hc hn
    · rcases (firstFailing_cons ..).1 i with ⟨hn, -⟩ | ⟨-, i⟩
      · exact absurd hn hc
      · exact ih h i

/-- A check that fails, with none before it that does. -/
theorem firstFailing_of_getElem {α : Type} {l : List (Prop × α)} {i : Nat} {c : Prop} {e : α}
    (h : l[i]? = some (c, e)) (hc : c) (hb : ∀ j b, j < i → l[j]? = some b → ¬b.1) : FirstFailing l e := by
  obtain ⟨hi, h⟩ := List.getElem?_eq_some_iff.1 h
  refine ⟨l.take i, l.drop (i + 1), c, ?_, hc, fun b hb' => ?_⟩
  · rw [← h, List.getElem_cons_drop, List.take_append_drop]
  · obtain ⟨j, hj⟩ := List.mem_iff_getElem?.1 hb'
    rw [List.getElem?_take] at hj
    split at hj
    · exact hb j b ‹_› hj
    · cases hj

/-- `o` is the first of the checks of `l` that fails, or none where all pass. -/
def Finds {α : Type} (o : Option α) (l : List (Prop × α)) : Prop :=
  match o with
  | none => ∀ b ∈ l, ¬b.1
  | some e => FirstFailing l e

theorem finds_append {α : Type} {o p : Option α} {l m : List (Prop × α)} (h : Finds o l) (i : Finds p m) :
    Finds (o.or p) (l ++ m) := by
  cases o with
  | some e => exact (firstFailing_append ..).2 (.inl h)
  | none =>
    cases p with
    | none => exact fun b hb => (List.mem_append.1 hb).elim (h b) (i b)
    | some e => exact (firstFailing_append ..).2 (.inr ⟨h, i⟩)

theorem finds_nil {α : Type} : Finds none ([] : List (Prop × α)) := by simp [Finds]

theorem finds_cons {α : Type} {c : Prop} [Decidable c] {x : α} {o : Option α} {l : List (Prop × α)} (h : Finds o l) :
    Finds (if c then some x else o) ((c, x) :: l) := by
  by_cases hc : c
  · rw [if_pos hc]
    exact (firstFailing_cons ..).2 (.inl ⟨hc, rfl⟩)
  · rw [if_neg hc]
    cases o with
    | none => exact fun b hb => (List.mem_cons.1 hb).elim (fun hb => hb ▸ hc) (h b)
    | some e => exact (firstFailing_cons ..).2 (.inr ⟨hc, h⟩)

theorem finds_firstFault {α : Type} {f : α → Option CheckFault} {l : α → List (Prop × CheckFault)}
    (h : ∀ x, Finds (f x) (l x)) (xs : List α) : Finds (firstFault f xs) (xs.flatMap l) := by
  induction xs with
  | nil => exact finds_nil
  | cons x xs ih =>
    have := finds_append (h x) ih
    unfold firstFault
    cases hf : f x <;> simpa [hf] using this

theorem finds_congr {α : Type} {o : Option α} {l m : List (Prop × α)} (h : Finds o l) (e : l = m) : Finds o m := e ▸ h

/-- The search of a strapping table for the first point that breaks an order with the point before it. -/
theorem finds_breaks {α : Type} {P : StrapPoint → StrapPoint → Prop} [∀ a b, Decidable (P a b)]
    {F : Nat → List StrapPoint → Option Nat} (h0 : ∀ i, F i [] = none) (h1 : ∀ i p, F i [p] = none)
    (h2 : ∀ i p q rest, F i (p :: q :: rest) = if P p q then some (i + 1) else F (i + 1) (q :: rest))
    (g : Nat → α) (ps : List StrapPoint) (i : Nat) :
    Finds ((F i ps).map g) ((List.range ps.length).map (fun j =>
      (∃ a b, ps[j]? = some a ∧ ps[j + 1]? = some b ∧ P a b, g (i + j + 1)))) := by
  induction ps generalizing i with
  | nil => rw [h0]; exact finds_nil
  | cons p ps ih =>
    rw [List.length_cons, List.range_succ_eq_map, List.map_cons, List.map_map]
    cases ps with
    | nil => rw [h1]; intro b hb; simp at hb; subst hb; simp
    | cons q rest =>
      have hf : (F i (p :: q :: rest)).map g =
          if P p q then some (g (i + 1)) else (F (i + 1) (q :: rest)).map g := by
        rw [h2]; split <;> rfl
      rw [hf]
      refine finds_congr (finds_cons (c := P p q) (ih (i + 1))) ?_
      congr 1
      · simp
      · apply List.map_congr_left
        intro j _
        simp only [Function.comp, List.getElem?_cons_succ, Nat.succ_eq_add_one]
        rw [show i + 1 + j + 1 = i + (j + 1) + 1 by omega]

theorem checkTank_finds (s : State) (t : Fin 8) : Finds (s.checkTank t) (s.tankChecks t) := by
  cases hc : (s.tank t).config with
  | none =>
    have : s.checkTank t = none := by simp [State.checkTank, hc]
    rw [this]
    intro b hb
    simp only [State.tankChecks, List.mem_append, List.mem_map, List.mem_cons, List.not_mem_nil, or_false] at hb
    rcases hb with (((rfl | rfl) | ⟨i, -, rfl⟩) | ⟨i, -, rfl⟩) | rfl | rfl | rfl | rfl <;> simp [hc]
  | some c =>
    by_cases hp : s.product c.product = none
    · have : s.checkTank t = tankFault t .tankProduct none := by simp [State.checkTank, hc, hp]
      rw [this]
      exact (firstFailing_cons ..).2 (.inl ⟨⟨c, hc, hp⟩, rfl⟩)
    · cases hs : (s.tank t).strap with
      | none =>
        have : s.checkTank t = tankFault t .strapAbsent none := by simp [State.checkTank, hc, hp, hs]
        rw [this]
        exact (firstFailing_cons ..).2 (.inr ⟨by simp [hc, hp], (firstFailing_cons ..).2 (.inl ⟨⟨c, hc, hs⟩, rfl⟩)⟩)
      | some ps =>
        have : s.checkTank t = Option.or
            (Option.or ((firstLevelFault 0 ps).map (fun i => ⟨0x02, t.val, .strapLevels, some i⟩))
              ((firstVolumeFault 0 ps).map (fun i => ⟨0x02, t.val, .strapVolumes, some i⟩)))
            (checkLimits t c ps) := by
          simp only [State.checkTank, hc, hs]
          rw [if_neg (by simpa using hp)]
          cases firstLevelFault 0 ps <;> cases firstVolumeFault 0 ps <;> rfl
        rw [this]
        have lv := finds_breaks (P := fun a b => b.level ≤ a.level) (F := firstLevelFault) (fun _ => rfl)
          (fun _ _ => rfl) (fun _ _ _ _ => rfl) (fun i => (⟨0x02, t.val, .strapLevels, some i⟩ : CheckFault)) ps 0
        have vv := finds_breaks (P := fun a b => b.volume < a.volume) (F := firstVolumeFault) (fun _ => rfl)
          (fun _ _ => rfl) (fun _ _ _ _ => rfl) (fun i => (⟨0x02, t.val, .strapVolumes, some i⟩ : CheckFault)) ps 0
        have two : Finds (none : Option CheckFault) [((∃ d, (s.tank t).config = some d ∧ s.product d.product = none),
              (⟨0x02, t.val, .tankProduct, none⟩ : CheckFault)),
            ((∃ d, (s.tank t).config = some d ∧ (s.tank t).strap = none), ⟨0x02, t.val, .strapAbsent, none⟩)] := by
          intro b hb
          simp only [List.mem_cons, List.not_mem_nil, or_false] at hb
          rcases hb with rfl | rfl <;> simp [hc, hp, hs]
        have lim : Finds (checkLimits t c ps) [
            (c.low ≤ c.lockout ∨ c.capacity ≤ c.low, (⟨0x02, t.val, .tankLimits, none⟩ : CheckFault)),
            (c.highHigh ≤ firstLevel ps ∨ lastLevelOf ps < c.highHigh, ⟨0x02, t.val, .tankHighHigh, none⟩),
            (c.safeFill = 0 ∨ lastVolumeOf ps < c.safeFill, ⟨0x02, t.val, .tankSafeFill, none⟩),
            (c.gauge = 0, ⟨0x02, t.val, .tankGauge, none⟩)] :=
          finds_cons (finds_cons (finds_cons (finds_cons finds_nil)))
        refine finds_congr (finds_append (finds_append (finds_append two lv) vv) lim) ?_
        simp [State.tankChecks, hc, hs]

theorem checkPoint_finds (s : State) (p : Fin 8) : Finds (s.checkPoint p) (s.pointFaults p) := by
  cases hc : (s.point p).config with
  | none =>
    have : s.checkPoint p = none := by simp [State.checkPoint, hc]
    rw [this]
    intro b hb
    simp only [State.pointFaults, List.mem_cons, List.not_mem_nil, or_false] at hb
    rcases hb with rfl | rfl | rfl <;> simp [hc]
  | some k =>
    have h : Finds (s.checkPoint p) [(s.product k.product = none, (⟨0x04, p.val, .pointProduct, none⟩ : CheckFault)),
        ((s.tank k.tank).config.map (·.product) ≠ some k.product, ⟨0x04, p.val, .pointTank, none⟩),
        ((s.pump k.pump).fitted = false, ⟨0x04, p.val, .pointPump, none⟩)] := by
      have : s.checkPoint p = if s.product k.product = none then pointFault p .pointProduct
          else if (s.tank k.tank).config.map (·.product) ≠ some k.product then pointFault p .pointTank
          else if (s.pump k.pump).fitted = false then pointFault p .pointPump else none := by
        simp only [State.checkPoint, hc]
        cases s.product k.product <;> cases (s.pump k.pump).fitted <;> simp
      rw [this]
      exact finds_cons (finds_cons (finds_cons finds_nil))
    refine finds_congr h ?_
    have : ((s.tank k.tank).config.map (·.product) ≠ some k.product) =
        ∀ c, (s.tank k.tank).config = some c → c.product ≠ k.product := by
      cases (s.tank k.tank).config <;> simp
    simp [State.pointFaults, hc, this]

/-- What COMMISSION finds is the first failing of its checks in the order of R175. -/
theorem commissionFault_finds (s : State) : Finds s.commissionFault s.commissionChecks := by
  have e : s.commissionFault = ((s.checkProducts.or (firstFault s.checkChannel all8)).or (firstFault s.checkTank all8)).or
      (firstFault s.checkPoint all8) := by
    unfold State.commissionFault
    cases s.checkProducts <;> cases firstFault s.checkChannel all8 <;> cases firstFault s.checkTank all8 <;> rfl
  rw [e]
  have mem : ∀ k : Fin 6, k ∈ all6 := by decide
  have hp : Finds s.checkProducts [((∀ k, s.product k = none), (⟨0x01, 0, .noProduct, none⟩ : CheckFault))] := by
    unfold State.checkProducts
    by_cases h : all6.any (fun p => (s.product p).isSome) = true
    · rw [if_pos h]
      intro b hb
      simp only [List.mem_cons, List.not_mem_nil, or_false] at hb
      subst hb
      obtain ⟨p, -, hp⟩ := List.any_eq_true.1 h
      intro hn
      simp [hn p] at hp
    · rw [if_neg h]
      refine (firstFailing_cons ..).2 (.inl ⟨fun k => ?_, rfl⟩)
      cases hk : s.product k with
      | none => rfl
      | some m => exact absurd (List.any_eq_true.2 ⟨k, mem k, by simp [hk]⟩) h
  have hc : Finds (firstFault s.checkChannel all8) (all8.map (fun c => ((s.channel c).config.k = 0,
      (⟨0x06, c.val, .channelK, none⟩ : CheckFault)))) := by
    refine finds_congr (finds_firstFault (l := fun c => [((s.channel c).config.k = 0, ⟨0x06, c.val, .channelK, none⟩)])
      (fun c => finds_cons finds_nil) all8) ?_
    simp [List.flatMap_def, all8]
  exact finds_append (finds_append (finds_append hp hc) (finds_firstFault (checkTank_finds s) all8))
    (finds_firstFault (checkPoint_finds s) all8)

/-- COMMISSION finds no fault exactly where every check passes. -/
theorem commissionFault_eq_none_iff (s : State) : s.commissionFault = none ↔ ∀ b ∈ s.commissionChecks, ¬b.1 := by
  have h := commissionFault_finds s
  cases hf : s.commissionFault with
  | none => rw [hf] at h; exact ⟨fun _ => h, fun _ => rfl⟩
  | some e =>
    rw [hf] at h
    obtain ⟨before, after, c, hl, hc, -⟩ := h
    simp only [reduceCtorEq, false_iff]
    exact fun hn => hn (c, e) (by rw [hl]; simp) hc

/-- COMMISSION finds the first check that fails. -/
theorem commissionFault_eq_some_iff (s : State) (e : CheckFault) :
    s.commissionFault = some e ↔ FirstFailing s.commissionChecks e := by
  have h := commissionFault_finds s
  cases hf : s.commissionFault with
  | none =>
    rw [hf] at h
    simp only [reduceCtorEq, false_iff]
    rintro ⟨before, after, c, hl, hc, -⟩
    exact h (c, e) (by rw [hl]; simp) hc
  | some d =>
    rw [hf] at h
    refine ⟨fun he => Option.some.inj he ▸ h, fun he => ?_⟩
    rw [firstFailing_unique h he]

end Sys2Proof.Machine
end

