-- ==== Sys2Proof/Laws/State.lean ====
section
/-! SUPPORT. One lemma per field per update of the state, and what reading a numbered record gives after a write. -/

namespace Sys2Proof.Machine

/-! ### setPending -/

@[simp] theorem State.setPending_pending (s : State) (x : List Instr) : (s.setPending x).pending = x := rfl
@[simp] theorem State.setPending_clock (s : State) (x : List Instr) : (s.setPending x).clock = s.clock := rfl
@[simp] theorem State.setPending_choices (s : State) (x : List Instr) : (s.setPending x).choices = s.choices := rfl
@[simp] theorem State.setPending_spt (s : State) (x : List Instr) : (s.setPending x).spt = s.spt := rfl
@[simp] theorem State.setPending_fsm (s : State) (x : List Instr) : (s.setPending x).fsm = s.fsm := rfl
@[simp] theorem State.setPending_fcl (s : State) (x : List Instr) : (s.setPending x).fcl = s.fcl := rfl
@[simp] theorem State.setPending_mtc (s : State) (x : List Instr) : (s.setPending x).mtc = s.mtc := rfl
@[simp] theorem State.setPending_vau (s : State) (x : List Instr) : (s.setPending x).vau = s.vau := rfl
@[simp] theorem State.setPending_dpt (s : State) (x : List Instr) : (s.setPending x).dpt = s.dpt := rfl
@[simp] theorem State.setPending_srs (s : State) (x : List Instr) : (s.setPending x).srs = s.srs := rfl
@[simp] theorem State.setPending_mac (s : State) (x : List Instr) : (s.setPending x).mac = s.mac := rfl
@[simp] theorem State.setPending_tks (s : State) (x : List Instr) : (s.setPending x).tks = s.tks := rfl
@[simp] theorem State.setPending_ssd (s : State) (x : List Instr) : (s.setPending x).ssd = s.ssd := rfl
@[simp] theorem State.setPending_jev (s : State) (x : List Instr) : (s.setPending x).jev = s.jev := rfl
@[simp] theorem State.setPending_mgt (s : State) (x : List Instr) : (s.setPending x).mgt = s.mgt := rfl

/-! ### setClock -/

@[simp] theorem State.setClock_pending (s : State) (x : Nat) : (s.setClock x).pending = s.pending := rfl
@[simp] theorem State.setClock_clock (s : State) (x : Nat) : (s.setClock x).clock = x := rfl
@[simp] theorem State.setClock_choices (s : State) (x : Nat) : (s.setClock x).choices = s.choices := rfl
@[simp] theorem State.setClock_spt (s : State) (x : Nat) : (s.setClock x).spt = s.spt := rfl
@[simp] theorem State.setClock_fsm (s : State) (x : Nat) : (s.setClock x).fsm = s.fsm := rfl
@[simp] theorem State.setClock_fcl (s : State) (x : Nat) : (s.setClock x).fcl = s.fcl := rfl
@[simp] theorem State.setClock_mtc (s : State) (x : Nat) : (s.setClock x).mtc = s.mtc := rfl
@[simp] theorem State.setClock_vau (s : State) (x : Nat) : (s.setClock x).vau = s.vau := rfl
@[simp] theorem State.setClock_dpt (s : State) (x : Nat) : (s.setClock x).dpt = s.dpt := rfl
@[simp] theorem State.setClock_srs (s : State) (x : Nat) : (s.setClock x).srs = s.srs := rfl
@[simp] theorem State.setClock_mac (s : State) (x : Nat) : (s.setClock x).mac = s.mac := rfl
@[simp] theorem State.setClock_tks (s : State) (x : Nat) : (s.setClock x).tks = s.tks := rfl
@[simp] theorem State.setClock_ssd (s : State) (x : Nat) : (s.setClock x).ssd = s.ssd := rfl
@[simp] theorem State.setClock_jev (s : State) (x : Nat) : (s.setClock x).jev = s.jev := rfl
@[simp] theorem State.setClock_mgt (s : State) (x : Nat) : (s.setClock x).mgt = s.mgt := rfl

/-! ### setChoices -/

@[simp] theorem State.setChoices_pending (s : State) (x : Nat) : (s.setChoices x).pending = s.pending := rfl
@[simp] theorem State.setChoices_clock (s : State) (x : Nat) : (s.setChoices x).clock = s.clock := rfl
@[simp] theorem State.setChoices_choices (s : State) (x : Nat) : (s.setChoices x).choices = x := rfl
@[simp] theorem State.setChoices_spt (s : State) (x : Nat) : (s.setChoices x).spt = s.spt := rfl
@[simp] theorem State.setChoices_fsm (s : State) (x : Nat) : (s.setChoices x).fsm = s.fsm := rfl
@[simp] theorem State.setChoices_fcl (s : State) (x : Nat) : (s.setChoices x).fcl = s.fcl := rfl
@[simp] theorem State.setChoices_mtc (s : State) (x : Nat) : (s.setChoices x).mtc = s.mtc := rfl
@[simp] theorem State.setChoices_vau (s : State) (x : Nat) : (s.setChoices x).vau = s.vau := rfl
@[simp] theorem State.setChoices_dpt (s : State) (x : Nat) : (s.setChoices x).dpt = s.dpt := rfl
@[simp] theorem State.setChoices_srs (s : State) (x : Nat) : (s.setChoices x).srs = s.srs := rfl
@[simp] theorem State.setChoices_mac (s : State) (x : Nat) : (s.setChoices x).mac = s.mac := rfl
@[simp] theorem State.setChoices_tks (s : State) (x : Nat) : (s.setChoices x).tks = s.tks := rfl
@[simp] theorem State.setChoices_ssd (s : State) (x : Nat) : (s.setChoices x).ssd = s.ssd := rfl
@[simp] theorem State.setChoices_jev (s : State) (x : Nat) : (s.setChoices x).jev = s.jev := rfl
@[simp] theorem State.setChoices_mgt (s : State) (x : Nat) : (s.setChoices x).mgt = s.mgt := rfl

/-! ### setSpt -/

@[simp] theorem State.setSpt_pending (s : State) (x : Spt) : (s.setSpt x).pending = s.pending := rfl
@[simp] theorem State.setSpt_clock (s : State) (x : Spt) : (s.setSpt x).clock = s.clock := rfl
@[simp] theorem State.setSpt_choices (s : State) (x : Spt) : (s.setSpt x).choices = s.choices := rfl
@[simp] theorem State.setSpt_spt (s : State) (x : Spt) : (s.setSpt x).spt = x := rfl
@[simp] theorem State.setSpt_fsm (s : State) (x : Spt) : (s.setSpt x).fsm = s.fsm := rfl
@[simp] theorem State.setSpt_fcl (s : State) (x : Spt) : (s.setSpt x).fcl = s.fcl := rfl
@[simp] theorem State.setSpt_mtc (s : State) (x : Spt) : (s.setSpt x).mtc = s.mtc := rfl
@[simp] theorem State.setSpt_vau (s : State) (x : Spt) : (s.setSpt x).vau = s.vau := rfl
@[simp] theorem State.setSpt_dpt (s : State) (x : Spt) : (s.setSpt x).dpt = s.dpt := rfl
@[simp] theorem State.setSpt_srs (s : State) (x : Spt) : (s.setSpt x).srs = s.srs := rfl
@[simp] theorem State.setSpt_mac (s : State) (x : Spt) : (s.setSpt x).mac = s.mac := rfl
@[simp] theorem State.setSpt_tks (s : State) (x : Spt) : (s.setSpt x).tks = s.tks := rfl
@[simp] theorem State.setSpt_ssd (s : State) (x : Spt) : (s.setSpt x).ssd = s.ssd := rfl
@[simp] theorem State.setSpt_jev (s : State) (x : Spt) : (s.setSpt x).jev = s.jev := rfl
@[simp] theorem State.setSpt_mgt (s : State) (x : Spt) : (s.setSpt x).mgt = s.mgt := rfl

/-! ### setFsm -/

@[simp] theorem State.setFsm_pending (s : State) (x : Fsm) : (s.setFsm x).pending = s.pending := rfl
@[simp] theorem State.setFsm_clock (s : State) (x : Fsm) : (s.setFsm x).clock = s.clock := rfl
@[simp] theorem State.setFsm_choices (s : State) (x : Fsm) : (s.setFsm x).choices = s.choices := rfl
@[simp] theorem State.setFsm_spt (s : State) (x : Fsm) : (s.setFsm x).spt = s.spt := rfl
@[simp] theorem State.setFsm_fsm (s : State) (x : Fsm) : (s.setFsm x).fsm = x := rfl
@[simp] theorem State.setFsm_fcl (s : State) (x : Fsm) : (s.setFsm x).fcl = s.fcl := rfl
@[simp] theorem State.setFsm_mtc (s : State) (x : Fsm) : (s.setFsm x).mtc = s.mtc := rfl
@[simp] theorem State.setFsm_vau (s : State) (x : Fsm) : (s.setFsm x).vau = s.vau := rfl
@[simp] theorem State.setFsm_dpt (s : State) (x : Fsm) : (s.setFsm x).dpt = s.dpt := rfl
@[simp] theorem State.setFsm_srs (s : State) (x : Fsm) : (s.setFsm x).srs = s.srs := rfl
@[simp] theorem State.setFsm_mac (s : State) (x : Fsm) : (s.setFsm x).mac = s.mac := rfl
@[simp] theorem State.setFsm_tks (s : State) (x : Fsm) : (s.setFsm x).tks = s.tks := rfl
@[simp] theorem State.setFsm_ssd (s : State) (x : Fsm) : (s.setFsm x).ssd = s.ssd := rfl
@[simp] theorem State.setFsm_jev (s : State) (x : Fsm) : (s.setFsm x).jev = s.jev := rfl
@[simp] theorem State.setFsm_mgt (s : State) (x : Fsm) : (s.setFsm x).mgt = s.mgt := rfl

/-! ### setFcl -/

@[simp] theorem State.setFcl_pending (s : State) (x : Fcl) : (s.setFcl x).pending = s.pending := rfl
@[simp] theorem State.setFcl_clock (s : State) (x : Fcl) : (s.setFcl x).clock = s.clock := rfl
@[simp] theorem State.setFcl_choices (s : State) (x : Fcl) : (s.setFcl x).choices = s.choices := rfl
@[simp] theorem State.setFcl_spt (s : State) (x : Fcl) : (s.setFcl x).spt = s.spt := rfl
@[simp] theorem State.setFcl_fsm (s : State) (x : Fcl) : (s.setFcl x).fsm = s.fsm := rfl
@[simp] theorem State.setFcl_fcl (s : State) (x : Fcl) : (s.setFcl x).fcl = x := rfl
@[simp] theorem State.setFcl_mtc (s : State) (x : Fcl) : (s.setFcl x).mtc = s.mtc := rfl
@[simp] theorem State.setFcl_vau (s : State) (x : Fcl) : (s.setFcl x).vau = s.vau := rfl
@[simp] theorem State.setFcl_dpt (s : State) (x : Fcl) : (s.setFcl x).dpt = s.dpt := rfl
@[simp] theorem State.setFcl_srs (s : State) (x : Fcl) : (s.setFcl x).srs = s.srs := rfl
@[simp] theorem State.setFcl_mac (s : State) (x : Fcl) : (s.setFcl x).mac = s.mac := rfl
@[simp] theorem State.setFcl_tks (s : State) (x : Fcl) : (s.setFcl x).tks = s.tks := rfl
@[simp] theorem State.setFcl_ssd (s : State) (x : Fcl) : (s.setFcl x).ssd = s.ssd := rfl
@[simp] theorem State.setFcl_jev (s : State) (x : Fcl) : (s.setFcl x).jev = s.jev := rfl
@[simp] theorem State.setFcl_mgt (s : State) (x : Fcl) : (s.setFcl x).mgt = s.mgt := rfl

/-! ### setMtc -/

@[simp] theorem State.setMtc_pending (s : State) (x : Mtc) : (s.setMtc x).pending = s.pending := rfl
@[simp] theorem State.setMtc_clock (s : State) (x : Mtc) : (s.setMtc x).clock = s.clock := rfl
@[simp] theorem State.setMtc_choices (s : State) (x : Mtc) : (s.setMtc x).choices = s.choices := rfl
@[simp] theorem State.setMtc_spt (s : State) (x : Mtc) : (s.setMtc x).spt = s.spt := rfl
@[simp] theorem State.setMtc_fsm (s : State) (x : Mtc) : (s.setMtc x).fsm = s.fsm := rfl
@[simp] theorem State.setMtc_fcl (s : State) (x : Mtc) : (s.setMtc x).fcl = s.fcl := rfl
@[simp] theorem State.setMtc_mtc (s : State) (x : Mtc) : (s.setMtc x).mtc = x := rfl
@[simp] theorem State.setMtc_vau (s : State) (x : Mtc) : (s.setMtc x).vau = s.vau := rfl
@[simp] theorem State.setMtc_dpt (s : State) (x : Mtc) : (s.setMtc x).dpt = s.dpt := rfl
@[simp] theorem State.setMtc_srs (s : State) (x : Mtc) : (s.setMtc x).srs = s.srs := rfl
@[simp] theorem State.setMtc_mac (s : State) (x : Mtc) : (s.setMtc x).mac = s.mac := rfl
@[simp] theorem State.setMtc_tks (s : State) (x : Mtc) : (s.setMtc x).tks = s.tks := rfl
@[simp] theorem State.setMtc_ssd (s : State) (x : Mtc) : (s.setMtc x).ssd = s.ssd := rfl
@[simp] theorem State.setMtc_jev (s : State) (x : Mtc) : (s.setMtc x).jev = s.jev := rfl
@[simp] theorem State.setMtc_mgt (s : State) (x : Mtc) : (s.setMtc x).mgt = s.mgt := rfl

/-! ### setVau -/

@[simp] theorem State.setVau_pending (s : State) (x : Vau) : (s.setVau x).pending = s.pending := rfl
@[simp] theorem State.setVau_clock (s : State) (x : Vau) : (s.setVau x).clock = s.clock := rfl
@[simp] theorem State.setVau_choices (s : State) (x : Vau) : (s.setVau x).choices = s.choices := rfl
@[simp] theorem State.setVau_spt (s : State) (x : Vau) : (s.setVau x).spt = s.spt := rfl
@[simp] theorem State.setVau_fsm (s : State) (x : Vau) : (s.setVau x).fsm = s.fsm := rfl
@[simp] theorem State.setVau_fcl (s : State) (x : Vau) : (s.setVau x).fcl = s.fcl := rfl
@[simp] theorem State.setVau_mtc (s : State) (x : Vau) : (s.setVau x).mtc = s.mtc := rfl
@[simp] theorem State.setVau_vau (s : State) (x : Vau) : (s.setVau x).vau = x := rfl
@[simp] theorem State.setVau_dpt (s : State) (x : Vau) : (s.setVau x).dpt = s.dpt := rfl
@[simp] theorem State.setVau_srs (s : State) (x : Vau) : (s.setVau x).srs = s.srs := rfl
@[simp] theorem State.setVau_mac (s : State) (x : Vau) : (s.setVau x).mac = s.mac := rfl
@[simp] theorem State.setVau_tks (s : State) (x : Vau) : (s.setVau x).tks = s.tks := rfl
@[simp] theorem State.setVau_ssd (s : State) (x : Vau) : (s.setVau x).ssd = s.ssd := rfl
@[simp] theorem State.setVau_jev (s : State) (x : Vau) : (s.setVau x).jev = s.jev := rfl
@[simp] theorem State.setVau_mgt (s : State) (x : Vau) : (s.setVau x).mgt = s.mgt := rfl

/-! ### setDpt -/

@[simp] theorem State.setDpt_pending (s : State) (x : Dpt) : (s.setDpt x).pending = s.pending := rfl
@[simp] theorem State.setDpt_clock (s : State) (x : Dpt) : (s.setDpt x).clock = s.clock := rfl
@[simp] theorem State.setDpt_choices (s : State) (x : Dpt) : (s.setDpt x).choices = s.choices := rfl
@[simp] theorem State.setDpt_spt (s : State) (x : Dpt) : (s.setDpt x).spt = s.spt := rfl
@[simp] theorem State.setDpt_fsm (s : State) (x : Dpt) : (s.setDpt x).fsm = s.fsm := rfl
@[simp] theorem State.setDpt_fcl (s : State) (x : Dpt) : (s.setDpt x).fcl = s.fcl := rfl
@[simp] theorem State.setDpt_mtc (s : State) (x : Dpt) : (s.setDpt x).mtc = s.mtc := rfl
@[simp] theorem State.setDpt_vau (s : State) (x : Dpt) : (s.setDpt x).vau = s.vau := rfl
@[simp] theorem State.setDpt_dpt (s : State) (x : Dpt) : (s.setDpt x).dpt = x := rfl
@[simp] theorem State.setDpt_srs (s : State) (x : Dpt) : (s.setDpt x).srs = s.srs := rfl
@[simp] theorem State.setDpt_mac (s : State) (x : Dpt) : (s.setDpt x).mac = s.mac := rfl
@[simp] theorem State.setDpt_tks (s : State) (x : Dpt) : (s.setDpt x).tks = s.tks := rfl
@[simp] theorem State.setDpt_ssd (s : State) (x : Dpt) : (s.setDpt x).ssd = s.ssd := rfl
@[simp] theorem State.setDpt_jev (s : State) (x : Dpt) : (s.setDpt x).jev = s.jev := rfl
@[simp] theorem State.setDpt_mgt (s : State) (x : Dpt) : (s.setDpt x).mgt = s.mgt := rfl

/-! ### setSrs -/

@[simp] theorem State.setSrs_pending (s : State) (x : Srs) : (s.setSrs x).pending = s.pending := rfl
@[simp] theorem State.setSrs_clock (s : State) (x : Srs) : (s.setSrs x).clock = s.clock := rfl
@[simp] theorem State.setSrs_choices (s : State) (x : Srs) : (s.setSrs x).choices = s.choices := rfl
@[simp] theorem State.setSrs_spt (s : State) (x : Srs) : (s.setSrs x).spt = s.spt := rfl
@[simp] theorem State.setSrs_fsm (s : State) (x : Srs) : (s.setSrs x).fsm = s.fsm := rfl
@[simp] theorem State.setSrs_fcl (s : State) (x : Srs) : (s.setSrs x).fcl = s.fcl := rfl
@[simp] theorem State.setSrs_mtc (s : State) (x : Srs) : (s.setSrs x).mtc = s.mtc := rfl
@[simp] theorem State.setSrs_vau (s : State) (x : Srs) : (s.setSrs x).vau = s.vau := rfl
@[simp] theorem State.setSrs_dpt (s : State) (x : Srs) : (s.setSrs x).dpt = s.dpt := rfl
@[simp] theorem State.setSrs_srs (s : State) (x : Srs) : (s.setSrs x).srs = x := rfl
@[simp] theorem State.setSrs_mac (s : State) (x : Srs) : (s.setSrs x).mac = s.mac := rfl
@[simp] theorem State.setSrs_tks (s : State) (x : Srs) : (s.setSrs x).tks = s.tks := rfl
@[simp] theorem State.setSrs_ssd (s : State) (x : Srs) : (s.setSrs x).ssd = s.ssd := rfl
@[simp] theorem State.setSrs_jev (s : State) (x : Srs) : (s.setSrs x).jev = s.jev := rfl
@[simp] theorem State.setSrs_mgt (s : State) (x : Srs) : (s.setSrs x).mgt = s.mgt := rfl

/-! ### setMac -/

@[simp] theorem State.setMac_pending (s : State) (x : Mac) : (s.setMac x).pending = s.pending := rfl
@[simp] theorem State.setMac_clock (s : State) (x : Mac) : (s.setMac x).clock = s.clock := rfl
@[simp] theorem State.setMac_choices (s : State) (x : Mac) : (s.setMac x).choices = s.choices := rfl
@[simp] theorem State.setMac_spt (s : State) (x : Mac) : (s.setMac x).spt = s.spt := rfl
@[simp] theorem State.setMac_fsm (s : State) (x : Mac) : (s.setMac x).fsm = s.fsm := rfl
@[simp] theorem State.setMac_fcl (s : State) (x : Mac) : (s.setMac x).fcl = s.fcl := rfl
@[simp] theorem State.setMac_mtc (s : State) (x : Mac) : (s.setMac x).mtc = s.mtc := rfl
@[simp] theorem State.setMac_vau (s : State) (x : Mac) : (s.setMac x).vau = s.vau := rfl
@[simp] theorem State.setMac_dpt (s : State) (x : Mac) : (s.setMac x).dpt = s.dpt := rfl
@[simp] theorem State.setMac_srs (s : State) (x : Mac) : (s.setMac x).srs = s.srs := rfl
@[simp] theorem State.setMac_mac (s : State) (x : Mac) : (s.setMac x).mac = x := rfl
@[simp] theorem State.setMac_tks (s : State) (x : Mac) : (s.setMac x).tks = s.tks := rfl
@[simp] theorem State.setMac_ssd (s : State) (x : Mac) : (s.setMac x).ssd = s.ssd := rfl
@[simp] theorem State.setMac_jev (s : State) (x : Mac) : (s.setMac x).jev = s.jev := rfl
@[simp] theorem State.setMac_mgt (s : State) (x : Mac) : (s.setMac x).mgt = s.mgt := rfl

/-! ### setTks -/

@[simp] theorem State.setTks_pending (s : State) (x : Tks) : (s.setTks x).pending = s.pending := rfl
@[simp] theorem State.setTks_clock (s : State) (x : Tks) : (s.setTks x).clock = s.clock := rfl
@[simp] theorem State.setTks_choices (s : State) (x : Tks) : (s.setTks x).choices = s.choices := rfl
@[simp] theorem State.setTks_spt (s : State) (x : Tks) : (s.setTks x).spt = s.spt := rfl
@[simp] theorem State.setTks_fsm (s : State) (x : Tks) : (s.setTks x).fsm = s.fsm := rfl
@[simp] theorem State.setTks_fcl (s : State) (x : Tks) : (s.setTks x).fcl = s.fcl := rfl
@[simp] theorem State.setTks_mtc (s : State) (x : Tks) : (s.setTks x).mtc = s.mtc := rfl
@[simp] theorem State.setTks_vau (s : State) (x : Tks) : (s.setTks x).vau = s.vau := rfl
@[simp] theorem State.setTks_dpt (s : State) (x : Tks) : (s.setTks x).dpt = s.dpt := rfl
@[simp] theorem State.setTks_srs (s : State) (x : Tks) : (s.setTks x).srs = s.srs := rfl
@[simp] theorem State.setTks_mac (s : State) (x : Tks) : (s.setTks x).mac = s.mac := rfl
@[simp] theorem State.setTks_tks (s : State) (x : Tks) : (s.setTks x).tks = x := rfl
@[simp] theorem State.setTks_ssd (s : State) (x : Tks) : (s.setTks x).ssd = s.ssd := rfl
@[simp] theorem State.setTks_jev (s : State) (x : Tks) : (s.setTks x).jev = s.jev := rfl
@[simp] theorem State.setTks_mgt (s : State) (x : Tks) : (s.setTks x).mgt = s.mgt := rfl

/-! ### setSsd -/

@[simp] theorem State.setSsd_pending (s : State) (x : Ssd) : (s.setSsd x).pending = s.pending := rfl
@[simp] theorem State.setSsd_clock (s : State) (x : Ssd) : (s.setSsd x).clock = s.clock := rfl
@[simp] theorem State.setSsd_choices (s : State) (x : Ssd) : (s.setSsd x).choices = s.choices := rfl
@[simp] theorem State.setSsd_spt (s : State) (x : Ssd) : (s.setSsd x).spt = s.spt := rfl
@[simp] theorem State.setSsd_fsm (s : State) (x : Ssd) : (s.setSsd x).fsm = s.fsm := rfl
@[simp] theorem State.setSsd_fcl (s : State) (x : Ssd) : (s.setSsd x).fcl = s.fcl := rfl
@[simp] theorem State.setSsd_mtc (s : State) (x : Ssd) : (s.setSsd x).mtc = s.mtc := rfl
@[simp] theorem State.setSsd_vau (s : State) (x : Ssd) : (s.setSsd x).vau = s.vau := rfl
@[simp] theorem State.setSsd_dpt (s : State) (x : Ssd) : (s.setSsd x).dpt = s.dpt := rfl
@[simp] theorem State.setSsd_srs (s : State) (x : Ssd) : (s.setSsd x).srs = s.srs := rfl
@[simp] theorem State.setSsd_mac (s : State) (x : Ssd) : (s.setSsd x).mac = s.mac := rfl
@[simp] theorem State.setSsd_tks (s : State) (x : Ssd) : (s.setSsd x).tks = s.tks := rfl
@[simp] theorem State.setSsd_ssd (s : State) (x : Ssd) : (s.setSsd x).ssd = x := rfl
@[simp] theorem State.setSsd_jev (s : State) (x : Ssd) : (s.setSsd x).jev = s.jev := rfl
@[simp] theorem State.setSsd_mgt (s : State) (x : Ssd) : (s.setSsd x).mgt = s.mgt := rfl

/-! ### setJev -/

@[simp] theorem State.setJev_pending (s : State) (x : Jev) : (s.setJev x).pending = s.pending := rfl
@[simp] theorem State.setJev_clock (s : State) (x : Jev) : (s.setJev x).clock = s.clock := rfl
@[simp] theorem State.setJev_choices (s : State) (x : Jev) : (s.setJev x).choices = s.choices := rfl
@[simp] theorem State.setJev_spt (s : State) (x : Jev) : (s.setJev x).spt = s.spt := rfl
@[simp] theorem State.setJev_fsm (s : State) (x : Jev) : (s.setJev x).fsm = s.fsm := rfl
@[simp] theorem State.setJev_fcl (s : State) (x : Jev) : (s.setJev x).fcl = s.fcl := rfl
@[simp] theorem State.setJev_mtc (s : State) (x : Jev) : (s.setJev x).mtc = s.mtc := rfl
@[simp] theorem State.setJev_vau (s : State) (x : Jev) : (s.setJev x).vau = s.vau := rfl
@[simp] theorem State.setJev_dpt (s : State) (x : Jev) : (s.setJev x).dpt = s.dpt := rfl
@[simp] theorem State.setJev_srs (s : State) (x : Jev) : (s.setJev x).srs = s.srs := rfl
@[simp] theorem State.setJev_mac (s : State) (x : Jev) : (s.setJev x).mac = s.mac := rfl
@[simp] theorem State.setJev_tks (s : State) (x : Jev) : (s.setJev x).tks = s.tks := rfl
@[simp] theorem State.setJev_ssd (s : State) (x : Jev) : (s.setJev x).ssd = s.ssd := rfl
@[simp] theorem State.setJev_jev (s : State) (x : Jev) : (s.setJev x).jev = x := rfl
@[simp] theorem State.setJev_mgt (s : State) (x : Jev) : (s.setJev x).mgt = s.mgt := rfl

/-! ### setMgt -/

@[simp] theorem State.setMgt_pending (s : State) (x : Mgt) : (s.setMgt x).pending = s.pending := rfl
@[simp] theorem State.setMgt_clock (s : State) (x : Mgt) : (s.setMgt x).clock = s.clock := rfl
@[simp] theorem State.setMgt_choices (s : State) (x : Mgt) : (s.setMgt x).choices = s.choices := rfl
@[simp] theorem State.setMgt_spt (s : State) (x : Mgt) : (s.setMgt x).spt = s.spt := rfl
@[simp] theorem State.setMgt_fsm (s : State) (x : Mgt) : (s.setMgt x).fsm = s.fsm := rfl
@[simp] theorem State.setMgt_fcl (s : State) (x : Mgt) : (s.setMgt x).fcl = s.fcl := rfl
@[simp] theorem State.setMgt_mtc (s : State) (x : Mgt) : (s.setMgt x).mtc = s.mtc := rfl
@[simp] theorem State.setMgt_vau (s : State) (x : Mgt) : (s.setMgt x).vau = s.vau := rfl
@[simp] theorem State.setMgt_dpt (s : State) (x : Mgt) : (s.setMgt x).dpt = s.dpt := rfl
@[simp] theorem State.setMgt_srs (s : State) (x : Mgt) : (s.setMgt x).srs = s.srs := rfl
@[simp] theorem State.setMgt_mac (s : State) (x : Mgt) : (s.setMgt x).mac = s.mac := rfl
@[simp] theorem State.setMgt_tks (s : State) (x : Mgt) : (s.setMgt x).tks = s.tks := rfl
@[simp] theorem State.setMgt_ssd (s : State) (x : Mgt) : (s.setMgt x).ssd = s.ssd := rfl
@[simp] theorem State.setMgt_jev (s : State) (x : Mgt) : (s.setMgt x).jev = s.jev := rfl
@[simp] theorem State.setMgt_mgt (s : State) (x : Mgt) : (s.setMgt x).mgt = x := rfl

/-! ### setEntry -/

@[simp] theorem State.setEntry_pending (s : State) (i : Fin 32) (x : Option PollEntry) : (s.setEntry i x).pending = s.pending := rfl
@[simp] theorem State.setEntry_clock (s : State) (i : Fin 32) (x : Option PollEntry) : (s.setEntry i x).clock = s.clock := rfl
@[simp] theorem State.setEntry_choices (s : State) (i : Fin 32) (x : Option PollEntry) : (s.setEntry i x).choices = s.choices := rfl
@[simp] theorem State.setEntry_spt (s : State) (i : Fin 32) (x : Option PollEntry) : (s.setEntry i x).spt = s.spt := rfl
@[simp] theorem State.setEntry_fcl (s : State) (i : Fin 32) (x : Option PollEntry) : (s.setEntry i x).fcl = s.fcl := rfl
@[simp] theorem State.setEntry_mtc (s : State) (i : Fin 32) (x : Option PollEntry) : (s.setEntry i x).mtc = s.mtc := rfl
@[simp] theorem State.setEntry_vau (s : State) (i : Fin 32) (x : Option PollEntry) : (s.setEntry i x).vau = s.vau := rfl
@[simp] theorem State.setEntry_dpt (s : State) (i : Fin 32) (x : Option PollEntry) : (s.setEntry i x).dpt = s.dpt := rfl
@[simp] theorem State.setEntry_srs (s : State) (i : Fin 32) (x : Option PollEntry) : (s.setEntry i x).srs = s.srs := rfl
@[simp] theorem State.setEntry_mac (s : State) (i : Fin 32) (x : Option PollEntry) : (s.setEntry i x).mac = s.mac := rfl
@[simp] theorem State.setEntry_tks (s : State) (i : Fin 32) (x : Option PollEntry) : (s.setEntry i x).tks = s.tks := rfl
@[simp] theorem State.setEntry_ssd (s : State) (i : Fin 32) (x : Option PollEntry) : (s.setEntry i x).ssd = s.ssd := rfl
@[simp] theorem State.setEntry_jev (s : State) (i : Fin 32) (x : Option PollEntry) : (s.setEntry i x).jev = s.jev := rfl
@[simp] theorem State.setEntry_mgt (s : State) (i : Fin 32) (x : Option PollEntry) : (s.setEntry i x).mgt = s.mgt := rfl
theorem State.setEntry_fsm (s : State) (i : Fin 32) (x : Option PollEntry) :
    (s.setEntry i x).fsm = { s.fsm with entries := upd s.fsm.entries i x } := rfl
@[simp] theorem State.setEntry_entry_self (s : State) (i : Fin 32) (x : Option PollEntry) : (s.setEntry i x).entry i = x := by
  simp [State.setEntry, State.entry]
theorem State.setEntry_entry_ne (s : State) (x : Option PollEntry) {i j : Fin 32} (h : i ≠ j) :
    (s.setEntry i x).entry j = s.entry j := by
  simp [State.setEntry, State.entry, upd_getElem_ne _ _ h]

/-! ### setChannel -/

@[simp] theorem State.setChannel_pending (s : State) (i : Fin 8) (x : Channel) : (s.setChannel i x).pending = s.pending := rfl
@[simp] theorem State.setChannel_clock (s : State) (i : Fin 8) (x : Channel) : (s.setChannel i x).clock = s.clock := rfl
@[simp] theorem State.setChannel_choices (s : State) (i : Fin 8) (x : Channel) : (s.setChannel i x).choices = s.choices := rfl
@[simp] theorem State.setChannel_spt (s : State) (i : Fin 8) (x : Channel) : (s.setChannel i x).spt = s.spt := rfl
@[simp] theorem State.setChannel_fsm (s : State) (i : Fin 8) (x : Channel) : (s.setChannel i x).fsm = s.fsm := rfl
@[simp] theorem State.setChannel_fcl (s : State) (i : Fin 8) (x : Channel) : (s.setChannel i x).fcl = s.fcl := rfl
@[simp] theorem State.setChannel_vau (s : State) (i : Fin 8) (x : Channel) : (s.setChannel i x).vau = s.vau := rfl
@[simp] theorem State.setChannel_dpt (s : State) (i : Fin 8) (x : Channel) : (s.setChannel i x).dpt = s.dpt := rfl
@[simp] theorem State.setChannel_srs (s : State) (i : Fin 8) (x : Channel) : (s.setChannel i x).srs = s.srs := rfl
@[simp] theorem State.setChannel_mac (s : State) (i : Fin 8) (x : Channel) : (s.setChannel i x).mac = s.mac := rfl
@[simp] theorem State.setChannel_tks (s : State) (i : Fin 8) (x : Channel) : (s.setChannel i x).tks = s.tks := rfl
@[simp] theorem State.setChannel_ssd (s : State) (i : Fin 8) (x : Channel) : (s.setChannel i x).ssd = s.ssd := rfl
@[simp] theorem State.setChannel_jev (s : State) (i : Fin 8) (x : Channel) : (s.setChannel i x).jev = s.jev := rfl
@[simp] theorem State.setChannel_mgt (s : State) (i : Fin 8) (x : Channel) : (s.setChannel i x).mgt = s.mgt := rfl
theorem State.setChannel_mtc (s : State) (i : Fin 8) (x : Channel) :
    (s.setChannel i x).mtc = { s.mtc with channels := upd s.mtc.channels i x } := rfl
@[simp] theorem State.setChannel_channel_self (s : State) (i : Fin 8) (x : Channel) : (s.setChannel i x).channel i = x := by
  simp [State.setChannel, State.channel]
theorem State.setChannel_channel_ne (s : State) (x : Channel) {i j : Fin 8} (h : i ≠ j) :
    (s.setChannel i x).channel j = s.channel j := by
  simp [State.setChannel, State.channel, upd_getElem_ne _ _ h]

/-! ### setPoint -/

@[simp] theorem State.setPoint_pending (s : State) (i : Fin 8) (x : Point) : (s.setPoint i x).pending = s.pending := rfl
@[simp] theorem State.setPoint_clock (s : State) (i : Fin 8) (x : Point) : (s.setPoint i x).clock = s.clock := rfl
@[simp] theorem State.setPoint_choices (s : State) (i : Fin 8) (x : Point) : (s.setPoint i x).choices = s.choices := rfl
@[simp] theorem State.setPoint_spt (s : State) (i : Fin 8) (x : Point) : (s.setPoint i x).spt = s.spt := rfl
@[simp] theorem State.setPoint_fsm (s : State) (i : Fin 8) (x : Point) : (s.setPoint i x).fsm = s.fsm := rfl
@[simp] theorem State.setPoint_fcl (s : State) (i : Fin 8) (x : Point) : (s.setPoint i x).fcl = s.fcl := rfl
@[simp] theorem State.setPoint_mtc (s : State) (i : Fin 8) (x : Point) : (s.setPoint i x).mtc = s.mtc := rfl
@[simp] theorem State.setPoint_vau (s : State) (i : Fin 8) (x : Point) : (s.setPoint i x).vau = s.vau := rfl
@[simp] theorem State.setPoint_srs (s : State) (i : Fin 8) (x : Point) : (s.setPoint i x).srs = s.srs := rfl
@[simp] theorem State.setPoint_mac (s : State) (i : Fin 8) (x : Point) : (s.setPoint i x).mac = s.mac := rfl
@[simp] theorem State.setPoint_tks (s : State) (i : Fin 8) (x : Point) : (s.setPoint i x).tks = s.tks := rfl
@[simp] theorem State.setPoint_ssd (s : State) (i : Fin 8) (x : Point) : (s.setPoint i x).ssd = s.ssd := rfl
@[simp] theorem State.setPoint_jev (s : State) (i : Fin 8) (x : Point) : (s.setPoint i x).jev = s.jev := rfl
@[simp] theorem State.setPoint_mgt (s : State) (i : Fin 8) (x : Point) : (s.setPoint i x).mgt = s.mgt := rfl
theorem State.setPoint_dpt (s : State) (i : Fin 8) (x : Point) :
    (s.setPoint i x).dpt = { s.dpt with points := upd s.dpt.points i x } := rfl
@[simp] theorem State.setPoint_point_self (s : State) (i : Fin 8) (x : Point) : (s.setPoint i x).point i = x := by
  simp [State.setPoint, State.point]
theorem State.setPoint_point_ne (s : State) (x : Point) {i j : Fin 8} (h : i ≠ j) :
    (s.setPoint i x).point j = s.point j := by
  simp [State.setPoint, State.point, upd_getElem_ne _ _ h]

/-! ### setPump -/

@[simp] theorem State.setPump_pending (s : State) (i : Fin 4) (x : Pump) : (s.setPump i x).pending = s.pending := rfl
@[simp] theorem State.setPump_clock (s : State) (i : Fin 4) (x : Pump) : (s.setPump i x).clock = s.clock := rfl
@[simp] theorem State.setPump_choices (s : State) (i : Fin 4) (x : Pump) : (s.setPump i x).choices = s.choices := rfl
@[simp] theorem State.setPump_spt (s : State) (i : Fin 4) (x : Pump) : (s.setPump i x).spt = s.spt := rfl
@[simp] theorem State.setPump_fsm (s : State) (i : Fin 4) (x : Pump) : (s.setPump i x).fsm = s.fsm := rfl
@[simp] theorem State.setPump_fcl (s : State) (i : Fin 4) (x : Pump) : (s.setPump i x).fcl = s.fcl := rfl
@[simp] theorem State.setPump_mtc (s : State) (i : Fin 4) (x : Pump) : (s.setPump i x).mtc = s.mtc := rfl
@[simp] theorem State.setPump_vau (s : State) (i : Fin 4) (x : Pump) : (s.setPump i x).vau = s.vau := rfl
@[simp] theorem State.setPump_srs (s : State) (i : Fin 4) (x : Pump) : (s.setPump i x).srs = s.srs := rfl
@[simp] theorem State.setPump_mac (s : State) (i : Fin 4) (x : Pump) : (s.setPump i x).mac = s.mac := rfl
@[simp] theorem State.setPump_tks (s : State) (i : Fin 4) (x : Pump) : (s.setPump i x).tks = s.tks := rfl
@[simp] theorem State.setPump_ssd (s : State) (i : Fin 4) (x : Pump) : (s.setPump i x).ssd = s.ssd := rfl
@[simp] theorem State.setPump_jev (s : State) (i : Fin 4) (x : Pump) : (s.setPump i x).jev = s.jev := rfl
@[simp] theorem State.setPump_mgt (s : State) (i : Fin 4) (x : Pump) : (s.setPump i x).mgt = s.mgt := rfl
theorem State.setPump_dpt (s : State) (i : Fin 4) (x : Pump) :
    (s.setPump i x).dpt = { s.dpt with pumps := upd s.dpt.pumps i x } := rfl
@[simp] theorem State.setPump_pump_self (s : State) (i : Fin 4) (x : Pump) : (s.setPump i x).pump i = x := by
  simp [State.setPump, State.pump]
theorem State.setPump_pump_ne (s : State) (x : Pump) {i j : Fin 4} (h : i ≠ j) :
    (s.setPump i x).pump j = s.pump j := by
  simp [State.setPump, State.pump, upd_getElem_ne _ _ h]

/-! ### setSlot -/

@[simp] theorem State.setSlot_pending (s : State) (i : Fin 4) (x : Option Run) : (s.setSlot i x).pending = s.pending := rfl
@[simp] theorem State.setSlot_clock (s : State) (i : Fin 4) (x : Option Run) : (s.setSlot i x).clock = s.clock := rfl
@[simp] theorem State.setSlot_choices (s : State) (i : Fin 4) (x : Option Run) : (s.setSlot i x).choices = s.choices := rfl
@[simp] theorem State.setSlot_spt (s : State) (i : Fin 4) (x : Option Run) : (s.setSlot i x).spt = s.spt := rfl
@[simp] theorem State.setSlot_fsm (s : State) (i : Fin 4) (x : Option Run) : (s.setSlot i x).fsm = s.fsm := rfl
@[simp] theorem State.setSlot_fcl (s : State) (i : Fin 4) (x : Option Run) : (s.setSlot i x).fcl = s.fcl := rfl
@[simp] theorem State.setSlot_mtc (s : State) (i : Fin 4) (x : Option Run) : (s.setSlot i x).mtc = s.mtc := rfl
@[simp] theorem State.setSlot_vau (s : State) (i : Fin 4) (x : Option Run) : (s.setSlot i x).vau = s.vau := rfl
@[simp] theorem State.setSlot_dpt (s : State) (i : Fin 4) (x : Option Run) : (s.setSlot i x).dpt = s.dpt := rfl
@[simp] theorem State.setSlot_mac (s : State) (i : Fin 4) (x : Option Run) : (s.setSlot i x).mac = s.mac := rfl
@[simp] theorem State.setSlot_tks (s : State) (i : Fin 4) (x : Option Run) : (s.setSlot i x).tks = s.tks := rfl
@[simp] theorem State.setSlot_ssd (s : State) (i : Fin 4) (x : Option Run) : (s.setSlot i x).ssd = s.ssd := rfl
@[simp] theorem State.setSlot_jev (s : State) (i : Fin 4) (x : Option Run) : (s.setSlot i x).jev = s.jev := rfl
@[simp] theorem State.setSlot_mgt (s : State) (i : Fin 4) (x : Option Run) : (s.setSlot i x).mgt = s.mgt := rfl
theorem State.setSlot_srs (s : State) (i : Fin 4) (x : Option Run) :
    (s.setSlot i x).srs = { s.srs with slots := upd s.srs.slots i x } := rfl
@[simp] theorem State.setSlot_slot_self (s : State) (i : Fin 4) (x : Option Run) : (s.setSlot i x).slot i = x := by
  simp [State.setSlot, State.slot]
theorem State.setSlot_slot_ne (s : State) (x : Option Run) {i j : Fin 4} (h : i ≠ j) :
    (s.setSlot i x).slot j = s.slot j := by
  simp [State.setSlot, State.slot, upd_getElem_ne _ _ h]

/-! ### setTank -/

@[simp] theorem State.setTank_pending (s : State) (i : Fin 8) (x : Tank) : (s.setTank i x).pending = s.pending := rfl
@[simp] theorem State.setTank_clock (s : State) (i : Fin 8) (x : Tank) : (s.setTank i x).clock = s.clock := rfl
@[simp] theorem State.setTank_choices (s : State) (i : Fin 8) (x : Tank) : (s.setTank i x).choices = s.choices := rfl
@[simp] theorem State.setTank_spt (s : State) (i : Fin 8) (x : Tank) : (s.setTank i x).spt = s.spt := rfl
@[simp] theorem State.setTank_fsm (s : State) (i : Fin 8) (x : Tank) : (s.setTank i x).fsm = s.fsm := rfl
@[simp] theorem State.setTank_fcl (s : State) (i : Fin 8) (x : Tank) : (s.setTank i x).fcl = s.fcl := rfl
@[simp] theorem State.setTank_mtc (s : State) (i : Fin 8) (x : Tank) : (s.setTank i x).mtc = s.mtc := rfl
@[simp] theorem State.setTank_vau (s : State) (i : Fin 8) (x : Tank) : (s.setTank i x).vau = s.vau := rfl
@[simp] theorem State.setTank_dpt (s : State) (i : Fin 8) (x : Tank) : (s.setTank i x).dpt = s.dpt := rfl
@[simp] theorem State.setTank_srs (s : State) (i : Fin 8) (x : Tank) : (s.setTank i x).srs = s.srs := rfl
@[simp] theorem State.setTank_mac (s : State) (i : Fin 8) (x : Tank) : (s.setTank i x).mac = s.mac := rfl
@[simp] theorem State.setTank_ssd (s : State) (i : Fin 8) (x : Tank) : (s.setTank i x).ssd = s.ssd := rfl
@[simp] theorem State.setTank_jev (s : State) (i : Fin 8) (x : Tank) : (s.setTank i x).jev = s.jev := rfl
@[simp] theorem State.setTank_mgt (s : State) (i : Fin 8) (x : Tank) : (s.setTank i x).mgt = s.mgt := rfl
theorem State.setTank_tks (s : State) (i : Fin 8) (x : Tank) :
    (s.setTank i x).tks = { s.tks with tanks := upd s.tks.tanks i x } := rfl
@[simp] theorem State.setTank_tank_self (s : State) (i : Fin 8) (x : Tank) : (s.setTank i x).tank i = x := by
  simp [State.setTank, State.tank]
theorem State.setTank_tank_ne (s : State) (x : Tank) {i j : Fin 8} (h : i ≠ j) :
    (s.setTank i x).tank j = s.tank j := by
  simp [State.setTank, State.tank, upd_getElem_ne _ _ h]

/-! ### setOrder -/

@[simp] theorem State.setOrder_pending (s : State) (i : Fin 16) (x : Option Order) : (s.setOrder i x).pending = s.pending := rfl
@[simp] theorem State.setOrder_clock (s : State) (i : Fin 16) (x : Option Order) : (s.setOrder i x).clock = s.clock := rfl
@[simp] theorem State.setOrder_choices (s : State) (i : Fin 16) (x : Option Order) : (s.setOrder i x).choices = s.choices := rfl
@[simp] theorem State.setOrder_spt (s : State) (i : Fin 16) (x : Option Order) : (s.setOrder i x).spt = s.spt := rfl
@[simp] theorem State.setOrder_fsm (s : State) (i : Fin 16) (x : Option Order) : (s.setOrder i x).fsm = s.fsm := rfl
@[simp] theorem State.setOrder_fcl (s : State) (i : Fin 16) (x : Option Order) : (s.setOrder i x).fcl = s.fcl := rfl
@[simp] theorem State.setOrder_mtc (s : State) (i : Fin 16) (x : Option Order) : (s.setOrder i x).mtc = s.mtc := rfl
@[simp] theorem State.setOrder_vau (s : State) (i : Fin 16) (x : Option Order) : (s.setOrder i x).vau = s.vau := rfl
@[simp] theorem State.setOrder_dpt (s : State) (i : Fin 16) (x : Option Order) : (s.setOrder i x).dpt = s.dpt := rfl
@[simp] theorem State.setOrder_srs (s : State) (i : Fin 16) (x : Option Order) : (s.setOrder i x).srs = s.srs := rfl
@[simp] theorem State.setOrder_mac (s : State) (i : Fin 16) (x : Option Order) : (s.setOrder i x).mac = s.mac := rfl
@[simp] theorem State.setOrder_ssd (s : State) (i : Fin 16) (x : Option Order) : (s.setOrder i x).ssd = s.ssd := rfl
@[simp] theorem State.setOrder_jev (s : State) (i : Fin 16) (x : Option Order) : (s.setOrder i x).jev = s.jev := rfl
@[simp] theorem State.setOrder_mgt (s : State) (i : Fin 16) (x : Option Order) : (s.setOrder i x).mgt = s.mgt := rfl
theorem State.setOrder_tks (s : State) (i : Fin 16) (x : Option Order) :
    (s.setOrder i x).tks = { s.tks with orders := upd s.tks.orders i x } := rfl
@[simp] theorem State.setOrder_order_self (s : State) (i : Fin 16) (x : Option Order) : (s.setOrder i x).order i = x := by
  simp [State.setOrder, State.order]
theorem State.setOrder_order_ne (s : State) (x : Option Order) {i j : Fin 16} (h : i ≠ j) :
    (s.setOrder i x).order j = s.order j := by
  simp [State.setOrder, State.order, upd_getElem_ne _ _ h]

/-! ### setSpill -/

@[simp] theorem State.setSpill_pending (s : State) (i : Fin 8) (x : Spill) : (s.setSpill i x).pending = s.pending := rfl
@[simp] theorem State.setSpill_clock (s : State) (i : Fin 8) (x : Spill) : (s.setSpill i x).clock = s.clock := rfl
@[simp] theorem State.setSpill_choices (s : State) (i : Fin 8) (x : Spill) : (s.setSpill i x).choices = s.choices := rfl
@[simp] theorem State.setSpill_spt (s : State) (i : Fin 8) (x : Spill) : (s.setSpill i x).spt = s.spt := rfl
@[simp] theorem State.setSpill_fsm (s : State) (i : Fin 8) (x : Spill) : (s.setSpill i x).fsm = s.fsm := rfl
@[simp] theorem State.setSpill_fcl (s : State) (i : Fin 8) (x : Spill) : (s.setSpill i x).fcl = s.fcl := rfl
@[simp] theorem State.setSpill_mtc (s : State) (i : Fin 8) (x : Spill) : (s.setSpill i x).mtc = s.mtc := rfl
@[simp] theorem State.setSpill_vau (s : State) (i : Fin 8) (x : Spill) : (s.setSpill i x).vau = s.vau := rfl
@[simp] theorem State.setSpill_dpt (s : State) (i : Fin 8) (x : Spill) : (s.setSpill i x).dpt = s.dpt := rfl
@[simp] theorem State.setSpill_srs (s : State) (i : Fin 8) (x : Spill) : (s.setSpill i x).srs = s.srs := rfl
@[simp] theorem State.setSpill_mac (s : State) (i : Fin 8) (x : Spill) : (s.setSpill i x).mac = s.mac := rfl
@[simp] theorem State.setSpill_tks (s : State) (i : Fin 8) (x : Spill) : (s.setSpill i x).tks = s.tks := rfl
@[simp] theorem State.setSpill_jev (s : State) (i : Fin 8) (x : Spill) : (s.setSpill i x).jev = s.jev := rfl
@[simp] theorem State.setSpill_mgt (s : State) (i : Fin 8) (x : Spill) : (s.setSpill i x).mgt = s.mgt := rfl
theorem State.setSpill_ssd (s : State) (i : Fin 8) (x : Spill) :
    (s.setSpill i x).ssd = { s.ssd with spills := upd s.ssd.spills i x } := rfl
@[simp] theorem State.setSpill_spill_self (s : State) (i : Fin 8) (x : Spill) : (s.setSpill i x).spill i = x := by
  simp [State.setSpill, State.spill]
theorem State.setSpill_spill_ne (s : State) (x : Spill) {i j : Fin 8} (h : i ≠ j) :
    (s.setSpill i x).spill j = s.spill j := by
  simp [State.setSpill, State.spill, upd_getElem_ne _ _ h]

/-! ### setLoop -/

@[simp] theorem State.setLoop_pending (s : State) (i : Fin 2) (x : EstopLoop) : (s.setLoop i x).pending = s.pending := rfl
@[simp] theorem State.setLoop_clock (s : State) (i : Fin 2) (x : EstopLoop) : (s.setLoop i x).clock = s.clock := rfl
@[simp] theorem State.setLoop_choices (s : State) (i : Fin 2) (x : EstopLoop) : (s.setLoop i x).choices = s.choices := rfl
@[simp] theorem State.setLoop_spt (s : State) (i : Fin 2) (x : EstopLoop) : (s.setLoop i x).spt = s.spt := rfl
@[simp] theorem State.setLoop_fsm (s : State) (i : Fin 2) (x : EstopLoop) : (s.setLoop i x).fsm = s.fsm := rfl
@[simp] theorem State.setLoop_fcl (s : State) (i : Fin 2) (x : EstopLoop) : (s.setLoop i x).fcl = s.fcl := rfl
@[simp] theorem State.setLoop_mtc (s : State) (i : Fin 2) (x : EstopLoop) : (s.setLoop i x).mtc = s.mtc := rfl
@[simp] theorem State.setLoop_vau (s : State) (i : Fin 2) (x : EstopLoop) : (s.setLoop i x).vau = s.vau := rfl
@[simp] theorem State.setLoop_dpt (s : State) (i : Fin 2) (x : EstopLoop) : (s.setLoop i x).dpt = s.dpt := rfl
@[simp] theorem State.setLoop_srs (s : State) (i : Fin 2) (x : EstopLoop) : (s.setLoop i x).srs = s.srs := rfl
@[simp] theorem State.setLoop_mac (s : State) (i : Fin 2) (x : EstopLoop) : (s.setLoop i x).mac = s.mac := rfl
@[simp] theorem State.setLoop_tks (s : State) (i : Fin 2) (x : EstopLoop) : (s.setLoop i x).tks = s.tks := rfl
@[simp] theorem State.setLoop_jev (s : State) (i : Fin 2) (x : EstopLoop) : (s.setLoop i x).jev = s.jev := rfl
@[simp] theorem State.setLoop_mgt (s : State) (i : Fin 2) (x : EstopLoop) : (s.setLoop i x).mgt = s.mgt := rfl
theorem State.setLoop_ssd (s : State) (i : Fin 2) (x : EstopLoop) :
    (s.setLoop i x).ssd = { s.ssd with loops := upd s.ssd.loops i x } := rfl
@[simp] theorem State.setLoop_loop_self (s : State) (i : Fin 2) (x : EstopLoop) : (s.setLoop i x).loop i = x := by
  simp [State.setLoop, State.loop]
theorem State.setLoop_loop_ne (s : State) (x : EstopLoop) {i j : Fin 2} (h : i ≠ j) :
    (s.setLoop i x).loop j = s.loop j := by
  simp [State.setLoop, State.loop, upd_getElem_ne _ _ h]

/-! ### setSump -/

@[simp] theorem State.setSump_pending (s : State) (i : Fin 4) (x : Sump) : (s.setSump i x).pending = s.pending := rfl
@[simp] theorem State.setSump_clock (s : State) (i : Fin 4) (x : Sump) : (s.setSump i x).clock = s.clock := rfl
@[simp] theorem State.setSump_choices (s : State) (i : Fin 4) (x : Sump) : (s.setSump i x).choices = s.choices := rfl
@[simp] theorem State.setSump_spt (s : State) (i : Fin 4) (x : Sump) : (s.setSump i x).spt = s.spt := rfl
@[simp] theorem State.setSump_fsm (s : State) (i : Fin 4) (x : Sump) : (s.setSump i x).fsm = s.fsm := rfl
@[simp] theorem State.setSump_fcl (s : State) (i : Fin 4) (x : Sump) : (s.setSump i x).fcl = s.fcl := rfl
@[simp] theorem State.setSump_mtc (s : State) (i : Fin 4) (x : Sump) : (s.setSump i x).mtc = s.mtc := rfl
@[simp] theorem State.setSump_vau (s : State) (i : Fin 4) (x : Sump) : (s.setSump i x).vau = s.vau := rfl
@[simp] theorem State.setSump_dpt (s : State) (i : Fin 4) (x : Sump) : (s.setSump i x).dpt = s.dpt := rfl
@[simp] theorem State.setSump_srs (s : State) (i : Fin 4) (x : Sump) : (s.setSump i x).srs = s.srs := rfl
@[simp] theorem State.setSump_mac (s : State) (i : Fin 4) (x : Sump) : (s.setSump i x).mac = s.mac := rfl
@[simp] theorem State.setSump_tks (s : State) (i : Fin 4) (x : Sump) : (s.setSump i x).tks = s.tks := rfl
@[simp] theorem State.setSump_jev (s : State) (i : Fin 4) (x : Sump) : (s.setSump i x).jev = s.jev := rfl
@[simp] theorem State.setSump_mgt (s : State) (i : Fin 4) (x : Sump) : (s.setSump i x).mgt = s.mgt := rfl
theorem State.setSump_ssd (s : State) (i : Fin 4) (x : Sump) :
    (s.setSump i x).ssd = { s.ssd with sumps := upd s.ssd.sumps i x } := rfl
@[simp] theorem State.setSump_sump_self (s : State) (i : Fin 4) (x : Sump) : (s.setSump i x).sump i = x := by
  simp [State.setSump, State.sump]
theorem State.setSump_sump_ne (s : State) (x : Sump) {i j : Fin 4} (h : i ≠ j) :
    (s.setSump i x).sump j = s.sump j := by
  simp [State.setSump, State.sump, upd_getElem_ne _ _ h]

/-! ### setCause -/

/-- The 39 places are the keys' own (section 9.4). -/
theorem CauseKey.place_inj {i j : CauseKey} (h : i.place = j.place) : i = j := by
  have hv : i.place.val = j.place.val := congrArg Fin.val h
  cases i <;> cases j <;> simp only [CauseKey.place] at hv <;>
    first
      | rfl
      | (congr 1; apply Fin.ext; omega)
      | omega

@[simp] theorem State.setCause_pending (s : State) (i : CauseKey) (x : Option CauseEntry) : (s.setCause i x).pending = s.pending := rfl
@[simp] theorem State.setCause_clock (s : State) (i : CauseKey) (x : Option CauseEntry) : (s.setCause i x).clock = s.clock := rfl
@[simp] theorem State.setCause_choices (s : State) (i : CauseKey) (x : Option CauseEntry) : (s.setCause i x).choices = s.choices := rfl
@[simp] theorem State.setCause_spt (s : State) (i : CauseKey) (x : Option CauseEntry) : (s.setCause i x).spt = s.spt := rfl
@[simp] theorem State.setCause_fsm (s : State) (i : CauseKey) (x : Option CauseEntry) : (s.setCause i x).fsm = s.fsm := rfl
@[simp] theorem State.setCause_fcl (s : State) (i : CauseKey) (x : Option CauseEntry) : (s.setCause i x).fcl = s.fcl := rfl
@[simp] theorem State.setCause_mtc (s : State) (i : CauseKey) (x : Option CauseEntry) : (s.setCause i x).mtc = s.mtc := rfl
@[simp] theorem State.setCause_vau (s : State) (i : CauseKey) (x : Option CauseEntry) : (s.setCause i x).vau = s.vau := rfl
@[simp] theorem State.setCause_dpt (s : State) (i : CauseKey) (x : Option CauseEntry) : (s.setCause i x).dpt = s.dpt := rfl
@[simp] theorem State.setCause_srs (s : State) (i : CauseKey) (x : Option CauseEntry) : (s.setCause i x).srs = s.srs := rfl
@[simp] theorem State.setCause_mac (s : State) (i : CauseKey) (x : Option CauseEntry) : (s.setCause i x).mac = s.mac := rfl
@[simp] theorem State.setCause_tks (s : State) (i : CauseKey) (x : Option CauseEntry) : (s.setCause i x).tks = s.tks := rfl
@[simp] theorem State.setCause_jev (s : State) (i : CauseKey) (x : Option CauseEntry) : (s.setCause i x).jev = s.jev := rfl
@[simp] theorem State.setCause_mgt (s : State) (i : CauseKey) (x : Option CauseEntry) : (s.setCause i x).mgt = s.mgt := rfl
theorem State.setCause_ssd (s : State) (i : CauseKey) (x : Option CauseEntry) :
    (s.setCause i x).ssd = { s.ssd with causes := upd s.ssd.causes i.place x } := rfl
@[simp] theorem State.setCause_cause_self (s : State) (i : CauseKey) (x : Option CauseEntry) : (s.setCause i x).cause i = x := by
  simp [State.setCause, State.cause]
theorem State.setCause_cause_ne (s : State) (x : Option CauseEntry) {i j : CauseKey} (h : i ≠ j) :
    (s.setCause i x).cause j = s.cause j := by
  have hp : i.place ≠ j.place := fun e => h (CauseKey.place_inj e)
  simp [State.setCause, State.cause, upd_getElem_ne _ _ hp]

/-! ### Records of one block -/

@[simp] theorem State.setPoint_pump (s : State) (i : Fin 8) (x : Point) (k : Fin 4) :
    (s.setPoint i x).pump k = s.pump k := rfl
@[simp] theorem State.setPump_point (s : State) (i : Fin 4) (x : Pump) (p : Fin 8) :
    (s.setPump i x).point p = s.point p := rfl
@[simp] theorem State.setTank_order (s : State) (i : Fin 8) (x : Tank) (o : Fin 16) :
    (s.setTank i x).order o = s.order o := rfl
@[simp] theorem State.setOrder_tank (s : State) (i : Fin 16) (x : Option Order) (t : Fin 8) :
    (s.setOrder i x).tank t = s.tank t := rfl
@[simp] theorem State.setCause_level (s : State) (k : CauseKey) (x : Option CauseEntry) :
    (s.setCause k x).ssd.level = s.ssd.level := rfl

end Sys2Proof.Machine
end

