-- ==== Sys2Proof/Laws/Operations.lean ====
section
/-! SUPPORT. What each shared operation can change: the blocks it leaves alone, what an event does to the queue,
what the account table holds after a write, and what a write of a record refits. -/

namespace Sys2Proof.Machine

/-! ### Frames by block -/

theorem Block.same_refl (b : Block) (s : State) : b.same s s := by cases b <;> rfl

theorem Block.same_trans {b : Block} {s t u : State} (h : b.same s t) (g : b.same t u) : b.same s u := by
  cases b <;> simp only [Block.same] at * <;> rw [g, h]

theorem OnlyBlocks.trans {l m : List Block} {s t u : State} (h : OnlyBlocks l s t) (g : OnlyBlocks m t u) :
    OnlyBlocks (l ++ m) s u :=
  ⟨g.1.trans h.1, fun b hb => by
    simp only [List.mem_append, not_or] at hb
    exact Block.same_trans (h.2 b hb.1) (g.2 b hb.2)⟩

theorem OnlyBlocks.mono {l m : List Block} {s t : State} (h : OnlyBlocks l s t) (hl : ∀ b ∈ l, b ∈ m) :
    OnlyBlocks m s t := ⟨h.1, fun b hb => h.2 b (fun hm => hb (hl b hm))⟩

theorem OnlyBlocks.refl (l : List Block) (s : State) : OnlyBlocks l s s := ⟨rfl, fun b _ => b.same_refl s⟩

/-- Two changes of the same blocks change those blocks. -/
theorem OnlyBlocks.then {l : List Block} {s t u : State} (h : OnlyBlocks l s t) (g : OnlyBlocks l t u) :
    OnlyBlocks l s u := (h.trans g).mono (by simp)

/-- What holds of each turn of a loop holds of the loop. -/
theorem each_onlyBlocks {α : Type} {f : State → α → State} {m : List Block} (h : ∀ s a, OnlyBlocks m s (f s a))
    (l : List α) (s : State) : OnlyBlocks m s (each l f s) := by
  induction l generalizing s with
  | nil => exact OnlyBlocks.refl m s
  | cons a l ih => exact (h s a).then (ih (f s a))

theorem setSpt_only (s : State) (x : Spt) : OnlyBlocks [.spt] s (s.setSpt x) :=
  ⟨rfl, by intro b; cases b <;> simp [Block.same]⟩
theorem setFsm_only (s : State) (x : Fsm) : OnlyBlocks [.fsm] s (s.setFsm x) :=
  ⟨rfl, by intro b; cases b <;> simp [Block.same]⟩
theorem setMtc_only (s : State) (x : Mtc) : OnlyBlocks [.mtc] s (s.setMtc x) :=
  ⟨rfl, by intro b; cases b <;> simp [Block.same]⟩
theorem setDpt_only (s : State) (x : Dpt) : OnlyBlocks [.dpt] s (s.setDpt x) :=
  ⟨rfl, by intro b; cases b <;> simp [Block.same]⟩
theorem setSrs_only (s : State) (x : Srs) : OnlyBlocks [.srs] s (s.setSrs x) :=
  ⟨rfl, by intro b; cases b <;> simp [Block.same]⟩
theorem setMac_only (s : State) (x : Mac) : OnlyBlocks [.mac] s (s.setMac x) :=
  ⟨rfl, by intro b; cases b <;> simp [Block.same]⟩
theorem setTks_only (s : State) (x : Tks) : OnlyBlocks [.tks] s (s.setTks x) :=
  ⟨rfl, by intro b; cases b <;> simp [Block.same]⟩
theorem setSsd_only (s : State) (x : Ssd) : OnlyBlocks [.ssd] s (s.setSsd x) :=
  ⟨rfl, by intro b; cases b <;> simp [Block.same]⟩
theorem setJev_only (s : State) (x : Jev) : OnlyBlocks [.jev] s (s.setJev x) :=
  ⟨rfl, by intro b; cases b <;> simp [Block.same]⟩
theorem setMgt_only (s : State) (x : Mgt) : OnlyBlocks [.mgt] s (s.setMgt x) :=
  ⟨rfl, by intro b; cases b <;> simp [Block.same]⟩
theorem setPoint_only (s : State) (p : Fin 8) (x : Point) : OnlyBlocks [.dpt] s (s.setPoint p x) :=
  setDpt_only s _
theorem setPump_only (s : State) (k : Fin 4) (x : Pump) : OnlyBlocks [.dpt] s (s.setPump k x) :=
  setDpt_only s _
theorem setTank_only (s : State) (t : Fin 8) (x : Tank) : OnlyBlocks [.tks] s (s.setTank t x) :=
  setTks_only s _
theorem setOrder_only (s : State) (o : Fin 16) (x : Option Order) : OnlyBlocks [.tks] s (s.setOrder o x) :=
  setTks_only s _
theorem setCause_only (s : State) (k : CauseKey) (x : Option CauseEntry) : OnlyBlocks [.ssd] s (s.setCause k x) :=
  setSsd_only s _

/-! ### Events and the journal -/

/-- An event leaves the journal, the record numbers and whether they have run out, the reserved places, the
full-reported flag and the masks. -/
theorem Jev.take_keeps (j : Jev) (e : Event) :
    (j.take e).journal = j.journal ∧ (j.take e).nextNumber = j.nextNumber ∧ (j.take e).reserved = j.reserved ∧
      (j.take e).spent = j.spent ∧ (j.take e).fullReported = j.fullReported ∧ (j.take e).masks = j.masks := by
  unfold Jev.take
  split
  · split
    · simp
    · split <;> simp
  · split <;> simp

/-- An event is queued at the tail or not queued, and the queue keeps its 32 places (R166). -/
theorem Jev.take_queue (j : Jev) (e : Event) :
    ((j.take e).queue = j.queue ∨ ((j.take e).queue = j.queue ++ [e] ∧ j.queue.length < 32)) := by
  unfold Jev.take
  split
  · split
    · simp
    · split <;> simp_all [Config.eventQueueSize]
  · split <;> simp_all [Config.eventQueueSize]

theorem Jev.take_queue_le (j : Jev) (e : Event) (h : j.queue.length ≤ 32) : (j.take e).queue.length ≤ 32 := by
  rcases j.take_queue e with q | ⟨q, l⟩ <;> rw [q]
  · exact h
  · simp; omega

theorem raise_only (s : State) (k : EventKind) (n : Nat) (d : List Byte) : OnlyBlocks [.jev] s (s.raise k n d) :=
  setJev_only s _

theorem append_only (s : State) (r : Nat → Record) : OnlyBlocks [.jev] s (s.append r) :=
  setJev_only s _

theorem reservePlace_only (s : State) : OnlyBlocks [.jev] s s.reservePlace := setJev_only s _

theorem reportFull_only (s : State) : OnlyBlocks [.jev] s s.reportFull := by
  unfold State.reportFull
  split
  · exact OnlyBlocks.refl _ s
  · exact (setJev_only s _).then (raise_only _ _ _ _)

/-! ### Ports and forward queue -/

theorem countSite_only (s : State) (f : SiteCounters → SiteCounters) : OnlyBlocks [.spt] s (s.countSite f) :=
  setSpt_only s _

theorem countField_only (s : State) (f : FieldCounters → FieldCounters) : OnlyBlocks [.fsm] s (s.countField f) :=
  setFsm_only s _

theorem offerSite_only (s : State) (f : Frame) : OnlyBlocks [.spt] s (s.offerSite f) := by
  unfold State.offerSite
  split
  · exact setSpt_only s _
  · exact countSite_only s _

theorem offerForward_only (s : State) (f : Frame) (g : Bool) : OnlyBlocks [.fsm] s (s.offerForward f g) := by
  unfold State.offerForward
  split
  · exact setFsm_only s _
  · exact countField_only s _

theorem offerPanel_only (s : State) (f : Frame) : OnlyBlocks [.fsm] s (s.offerPanel f) := by
  simp only [State.offerPanel]
  split
  · exact setFsm_only s _
  · exact (setFsm_only s _).then (countField_only _ _)

theorem purgeGated_only (s : State) : OnlyBlocks [.fsm] s s.purgeGated :=
  (setFsm_only s _).then (countField_only _ _)

/-! ### Records with the first flag clear -/

@[simp] theorem recordBytes_none {α : Type} (kept : List Byte) (f : α → List Byte) :
    recordBytes none kept f = kept := rfl
@[simp] theorem recordBytes_some {α : Type} (a : α) (kept : List Byte) (f : α → List Byte) :
    recordBytes (some a) kept f = f a := rfl
@[simp] theorem keptBytes_none {α : Type} (b : List Byte) : keptBytes (none : Option α) b = b := rfl
@[simp] theorem keptBytes_some {α : Type} (a : α) (b : List Byte) : keptBytes (some a) b = [] := rfl

/-- A point in service has the stations of its configuration. -/
theorem Point.stations_of_config {x : Point} {k : PointConfig} (h : x.config = some k) :
    x.reader = k.reader ∧ x.panel = k.panel := by
  simp [Point.reader, Point.panel, h]

/-- A point out of service has the stations that its record was written with. -/
theorem Point.stations_of_none {x : Point} (h : x.config = none) :
    x.reader = num x.idle 4 1 ∧ x.panel = num x.idle 5 1 := by
  simp [Point.reader, Point.panel, h]

theorem keepUnused_only (s : State) (e : Fin 32) (b : List Byte) : OnlyBlocks [.fsm] s (s.keepUnused e b) :=
  setFsm_only s _

/-! ### Points, tanks and orders -/

theorem modTank_only (s : State) (t : Fin 8) (f : Tank → Tank) : OnlyBlocks [.tks] s (s.modTank t f) :=
  setTank_only s t _

theorem modContext_only (s : State) (p : Fin 8) (f : Context → Context) : OnlyBlocks [.dpt] s (s.modContext p f) := by
  unfold State.modContext
  split
  · exact OnlyBlocks.refl _ s
  · exact setPoint_only s p _

theorem syncPumps_only (s : State) : OnlyBlocks [.dpt] s s.syncPumps :=
  each_onlyBlocks (fun s k => setPump_only s k _) _ s

theorem sendPanel_only (s : State) (p : Fin 8) : OnlyBlocks [.dpt, .fsm] s (s.sendPanel p) := by
  unfold State.sendPanel
  split
  · exact OnlyBlocks.refl _ s
  · exact ((modContext_only s p _).then (setPoint_only _ p _)).trans (offerPanel_only _ _)

theorem enterState_only (s : State) (p : Fin 8) (x : PointState) : OnlyBlocks [.dpt, .fsm] s (s.enterState p x) :=
  (((setPoint_only s p _).then (syncPumps_only _)).trans (sendPanel_only _ p)).mono (by simp)

theorem toStopping_only (s : State) (p : Fin 8) (c : EndCause) : OnlyBlocks [.dpt, .fsm] s (s.toStopping p c) := by
  unfold State.toStopping
  split
  · exact ((modContext_only s p _).trans (enterState_only _ p _)).mono (by simp)
  · exact OnlyBlocks.refl _ s

theorem evalTank_only (s : State) (t : Fin 8) : OnlyBlocks [.tks, .jev] s (s.evalTank t) := by
  have h : OnlyBlocks [.tks, .jev] s (s.settleTank t) := (modTank_only s t _).mono (by simp)
  simp only [State.evalTank]
  split
  · exact h.then ((raise_only _ _ _ _).mono (by simp))
  · split
    · exact h.then ((setTks_only _ _).trans (raise_only _ _ _ _))
    · exact h

theorem postBook_only (s : State) (t : Fin 8) (d : Int) : OnlyBlocks [.tks, .jev] s (s.postBook t d) :=
  ((modTank_only s t _).mono (by simp)).then (evalTank_only _ t)

theorem endOrder_only (s : State) (o : Fin 16) (x : Order) (c : DeliveryEnd) :
    OnlyBlocks [.jev, .tks] s (s.endOrder o x c) :=
  ((((append_only s _).trans (setOrder_only _ o _)).then ((modTank_only _ _ _).mono (by simp))).then
    ((raise_only _ _ _ _).mono (by simp)))

theorem endDelivery_only (s : State) (t : Fin 8) (c : DeliveryEnd) :
    OnlyBlocks [.jev, .tks] s (s.endDelivery t c) := by
  unfold State.endDelivery
  split
  · exact OnlyBlocks.refl _ s
  · split
    · exact OnlyBlocks.refl _ s
    · split
      · exact OnlyBlocks.refl _ s
      · exact endOrder_only _ _ _ _

theorem endDeliveries_only (s : State) (c : DeliveryEnd) : OnlyBlocks [.jev, .tks] s (s.endDeliveries c) :=
  each_onlyBlocks (fun s t => endDelivery_only s t c) _ s

theorem reportLockouts_only (s : State) : OnlyBlocks [.tks, .dpt, .fsm] s s.reportLockouts := by
  refine ((setTks_only s _).mono (by simp)).then (each_onlyBlocks (fun s t => each_onlyBlocks (fun s p => ?_) _ s) _ _)
  split
  · exact (toStopping_only s p _).mono (by simp)
  · exact OnlyBlocks.refl _ s

/-! ### The bay level -/

theorem takeLevel_only (s : State) (l : Level) : OnlyBlocks [.ssd, .dpt] s (s.takeLevel l) := by
  simp only [State.takeLevel]
  split
  · exact ((setSsd_only s _).then (setSsd_only _ _)).trans (syncPumps_only _)
  · exact (setSsd_only s _).trans (syncPumps_only _)

theorem riseFromNormal_only (s : State) : OnlyBlocks [.dpt, .fsm] s s.riseFromNormal :=
  (each_onlyBlocks (fun s p => toStopping_only s p _) _ s).then ((purgeGated_only _).mono (by simp))

/-- A change of the bay level reaches the points, the forward queue, the deliveries and the events, and nothing
else (R155, R156). -/
theorem evalLevel_only (s : State) : OnlyBlocks [.ssd, .dpt, .fsm, .tks, .jev] s s.evalLevel := by
  simp only [State.evalLevel]
  split
  · exact OnlyBlocks.refl _ s
  · have h1 := ((takeLevel_only s s.calledLevel).trans
      (raise_only (s.takeLevel s.calledLevel) .levelChanged noSource [s.ssd.level.code, s.calledLevel.code])).mono
      (m := [.ssd, .dpt, .fsm, .tks, .jev]) (by simp)
    have h2 : ∀ u, OnlyBlocks [.ssd, .dpt, .fsm, .tks, .jev] s u →
        OnlyBlocks [.ssd, .dpt, .fsm, .tks, .jev] s (if s.ssd.level = .normal then u.riseFromNormal else u) := by
      intro u hu
      split
      · exact hu.then ((riseFromNormal_only u).mono (by simp))
      · exact hu
    split
    · exact (h2 _ h1).then ((endDeliveries_only _ _).mono (by simp))
    · exact h2 _ h1

/-! ### The account table -/

/-- A slot holds what was put in it, and every other slot what it held. -/
theorem lookupSlot_putSlot (slot k : Nat) (a : Account) (l : List (Nat × Account)) :
    lookupSlot k (putSlot slot a l) = if k = slot then some a else lookupSlot k l := by
  induction l with
  | nil => simp [putSlot, lookupSlot, eq_comm]
  | cons e l ih =>
    obtain ⟨m, b⟩ := e
    simp only [putSlot]
    split
    · simp [lookupSlot, eq_comm]
    · split
      · subst slot
        by_cases h : k = m <;> simp [lookupSlot, h, eq_comm (a := m)]
      · simp only [lookupSlot, ih]
        by_cases h : m = k
        · subst h
          have : ¬ m = slot := by omega
          simp [this]
        · simp [h]

/-- An emptied slot holds nothing, and every other slot what it held. -/
theorem lookupSlot_dropSlot (slot k : Nat) (l : List (Nat × Account)) :
    lookupSlot k (dropSlot slot l) = if k = slot then none else lookupSlot k l := by
  induction l with
  | nil => simp [dropSlot, lookupSlot]
  | cons e l ih =>
    obtain ⟨m, b⟩ := e
    simp only [dropSlot] at ih ⊢
    by_cases h : m = slot
    · subst h
      simp only [List.filter_cons, ne_eq, not_true_eq_false, decide_false, Bool.false_eq_true, if_false, ih, lookupSlot]
      by_cases hk : k = m
      · simp [hk]
      · simp [hk, eq_comm (a := m)]
    · simp only [List.filter_cons, ne_eq, h, not_false_eq_true, decide_true, if_true, lookupSlot, ih]
      by_cases hk : m = k
      · subst hk; simp [h]
      · simp [hk]

/-! ### Records rewritten -/

/-- A refiltered input keeps its levels, and a timing stays a timing. -/
theorem Input.refilter_keeps (x : Input) (old new clock : Nat) :
    (x.refilter old new clock).raw = x.raw ∧ (x.refilter old new clock).level = x.level ∧
      (x.refilter old new clock).since.isSome = x.since.isSome := by simp [Input.refilter]

/-- A timing that has run past the old filter time is left as it is. -/
theorem Input.refilter_of_ready (x : Input) {old clock t0 : Nat} (new : Nat) (h : x.since = some t0)
    (hr : t0 + old < clock) : x.refilter old new clock = x := by
  cases x; simp at h; subst h; simp [Input.refilter, hr]

/-- A refreshed tank changes only in its applied temperature and the clamped mark. -/
theorem Tank.refreshTemp_eq (x : Tank) (d : Option Int) : ∃ a c, x.refreshTemp d = { x with applied := a, clamped := c } := by
  unfold Tank.refreshTemp
  split <;> exact ⟨_, _, rfl⟩

theorem refreshTemp_only (s : State) (t : Fin 8) : OnlyBlocks [.tks] s (s.refreshTemp t) := modTank_only s t _

/-- A sump is fitted exactly when its station is not 0. -/
theorem Sump.fitted_eq_some (x : Sump) (c : SumpConfig) : x.fitted = some c ↔ x.config.station ≠ 0 ∧ x.config = c := by
  unfold Sump.fitted
  split <;> simp [*]

end Sys2Proof.Machine
end

