-- ==== Sys2Proof/Laws/Requests.lean ====
section
/-! SUPPORT. What serving a management request does: the request its frame spells, the state its rule runs on, and the
response that answers it. -/

namespace Sys2Proof.Machine

/-- The request that a frame spells which asks this. -/
def askedRequest (f : Frame) (access object : Byte) (index : Nat) (echo : Byte) (params : List Byte) : Request :=
  { source := frameSource f, access := access.toNat, object := object.toNat, index := index, echo := echo,
    params := params }

/-- The state an object's rule runs on: the request has left the buffer, and a contested place is management's. -/
def State.taken (s : State) (rest : List Frame) : State :=
  s.setSpt { s.spt with
    rx := rest,
    lastContested := if s.jev.queue ≠ [] ∧ s.spt.tx.length = 15 then .management else s.spt.lastContested }

@[simp] theorem State.taken_pending (s : State) (r : List Frame) : (s.taken r).pending = s.pending := rfl
@[simp] theorem State.taken_clock (s : State) (r : List Frame) : (s.taken r).clock = s.clock := rfl
@[simp] theorem State.taken_choices (s : State) (r : List Frame) : (s.taken r).choices = s.choices := rfl
@[simp] theorem State.taken_fsm (s : State) (r : List Frame) : (s.taken r).fsm = s.fsm := rfl
@[simp] theorem State.taken_fcl (s : State) (r : List Frame) : (s.taken r).fcl = s.fcl := rfl
@[simp] theorem State.taken_mtc (s : State) (r : List Frame) : (s.taken r).mtc = s.mtc := rfl
@[simp] theorem State.taken_vau (s : State) (r : List Frame) : (s.taken r).vau = s.vau := rfl
@[simp] theorem State.taken_dpt (s : State) (r : List Frame) : (s.taken r).dpt = s.dpt := rfl
@[simp] theorem State.taken_srs (s : State) (r : List Frame) : (s.taken r).srs = s.srs := rfl
@[simp] theorem State.taken_mac (s : State) (r : List Frame) : (s.taken r).mac = s.mac := rfl
@[simp] theorem State.taken_tks (s : State) (r : List Frame) : (s.taken r).tks = s.tks := rfl
@[simp] theorem State.taken_ssd (s : State) (r : List Frame) : (s.taken r).ssd = s.ssd := rfl
@[simp] theorem State.taken_jev (s : State) (r : List Frame) : (s.taken r).jev = s.jev := rfl
@[simp] theorem State.taken_mgt (s : State) (r : List Frame) : (s.taken r).mgt = s.mgt := rfl
@[simp] theorem State.taken_tx (s : State) (r : List Frame) : (s.taken r).spt.tx = s.spt.tx := rfl
@[simp] theorem State.taken_counters (s : State) (r : List Frame) : (s.taken r).spt.counters = s.spt.counters := rfl

/-- A request's frame names the index and the echo byte that it asks with. -/
theorem readRequest_of_asks {f : Frame} {access object : Byte} {index : Nat} {params : List Byte}
    (h : Asks f access object index params) :
    ∃ echo, readRequest f = askedRequest f access object index echo params ∧
      requestTooShort f = false ∧ (framePayload f).take 5 = [access, object] ++ beBytes 2 index ++ [echo] := by
  obtain ⟨hi, echo, hp⟩ := h
  refine ⟨echo, ?_, ?_, ?_⟩
  · have hidx : beNat [BitVec.ofNat 8 (index / 256), BitVec.ofNat 8 index] = index := by
      have := beNat_beBytes (w := 2) (n := index) (by simpa using hi)
      simpa [beBytes] using this
    unfold readRequest askedRequest
    simp only [hp, num, slice, beBytes]
    simp [hidx]
  · simp [requestTooShort, hp]
    omega
  · simp [hp, beBytes]

/-- A request that can be taken claims its place. -/
theorem canClaim_of_takes {s : State} {f : Frame} {rest : List Frame} (h : Takes s f rest) :
    s.canClaim .management = true ∧ (s.claim .management).popSite = s.taken rest := by
  obtain ⟨hm, hr, hd, hk, hl, hc⟩ := h
  have hw : s.managementWaits = true := by simp [State.managementWaits, hm, hr, hd, hk, kindRequest]
  have hcont : s.contested = true ↔ s.jev.queue ≠ [] ∧ s.spt.tx.length = 15 := by
    simp [State.contested, hw, State.eventWaits, Config.siteTxSize]
  constructor
  · simp only [State.canClaim, Bool.and_eq_true, decide_eq_true_eq, Config.siteTxSize, hl, true_and,
      Bool.or_eq_true]
    by_cases h1 : s.contested = true
    · right
      obtain ⟨hq, hn⟩ := hcont.1 h1
      rcases hc with hc | hc | hc
      · exact absurd hc hq
      · exact absurd hn hc
      · rw [hc]; decide
    · left; simpa using h1
  · by_cases h1 : s.contested = true
    · obtain ⟨hq, hn⟩ := hcont.1 h1
      simp [State.claim, h1, State.popSite, State.taken, State.setSpt, hr, hq, hn]
    · have h2 : ¬(s.jev.queue ≠ [] ∧ s.spt.tx.length = 15) := fun e => h1 (hcont.2 e)
      simp only [State.claim, if_neg h1, State.popSite, State.taken, State.setSpt, hr, if_neg h2]
      rfl

/-- Serving a request that can be taken runs its rule on `taken` and answers it. -/
theorem serve_of_requested {s : State} {f : Frame} {rest : List Frame} {access object : Byte} {index : Nat}
    {params : List Byte} (h : Requested s f rest access object index params) (objects : List Nat)
    (rule : Request → State → Reply) (hm : objects.contains object.toNat = true) :
    ∃ echo, s.serve objects rule =
        (rule (askedRequest f access object index echo params) (s.taken rest)).send
          (askedRequest f access object index echo params) ∧
      ∀ (status : Status) (data : List Byte),
        responseFrame (askedRequest f access object index echo params) status data =
          makeFrame (frameSource f) 0x21 ((framePayload f).take 5 ++ [status.code] ++ data) := by
  obtain ⟨ht, ha⟩ := h
  obtain ⟨echo, hq, hs, h5⟩ := readRequest_of_asks ha
  obtain ⟨hc, hp⟩ := canClaim_of_takes ht
  obtain ⟨hmr, hr, hd, hk, -, -⟩ := ht
  refine ⟨echo, ?_, ?_⟩
  · have hreq : isRequest f = true := by simp [isRequest, hd, hk, kindRequest]
    have hhead : s.headRequest objects = some (askedRequest f access object index echo params) := by
      have hmem : (askedRequest f access object index echo params).object = object.toNat := rfl
      simp only [State.headRequest, hmr, hr, hreq, hs, hq, hmem, hm, hc, Bool.not_false, Bool.and_self, if_true]
    simp only [State.serve, hhead, hp]
  · intro status data
    rw [h5]
    simp [responseFrame, askedRequest, kindResponse, beBytes]

/-- A reply that leaves the site port as `taken` gave it answers the request. -/
theorem answered_of_send {s : State} {f : Frame} {rest : List Frame} {r : Request} {x : Reply}
    (hs : x.state.spt = (s.taken rest).spt)
    (hr : responseFrame r x.status x.data =
      makeFrame (frameSource f) 0x21 ((framePayload f).take 5 ++ [x.status.code] ++ x.data)) :
    Answered s (x.send r) f rest x.status.code x.data := by
  unfold Answered Reply.send
  simp [hs, hr, State.taken]

@[simp] theorem Reply.send_pending (x : Reply) (r : Request) : (x.send r).pending = x.state.pending := rfl
@[simp] theorem Reply.send_clock (x : Reply) (r : Request) : (x.send r).clock = x.state.clock := rfl
@[simp] theorem Reply.send_choices (x : Reply) (r : Request) : (x.send r).choices = x.state.choices := rfl
@[simp] theorem Reply.send_fsm (x : Reply) (r : Request) : (x.send r).fsm = x.state.fsm := rfl
@[simp] theorem Reply.send_fcl (x : Reply) (r : Request) : (x.send r).fcl = x.state.fcl := rfl
@[simp] theorem Reply.send_mtc (x : Reply) (r : Request) : (x.send r).mtc = x.state.mtc := rfl
@[simp] theorem Reply.send_vau (x : Reply) (r : Request) : (x.send r).vau = x.state.vau := rfl
@[simp] theorem Reply.send_dpt (x : Reply) (r : Request) : (x.send r).dpt = x.state.dpt := rfl
@[simp] theorem Reply.send_srs (x : Reply) (r : Request) : (x.send r).srs = x.state.srs := rfl
@[simp] theorem Reply.send_mac (x : Reply) (r : Request) : (x.send r).mac = x.state.mac := rfl
@[simp] theorem Reply.send_tks (x : Reply) (r : Request) : (x.send r).tks = x.state.tks := rfl
@[simp] theorem Reply.send_ssd (x : Reply) (r : Request) : (x.send r).ssd = x.state.ssd := rfl
@[simp] theorem Reply.send_jev (x : Reply) (r : Request) : (x.send r).jev = x.state.jev := rfl
@[simp] theorem Reply.send_mgt (x : Reply) (r : Request) : (x.send r).mgt = x.state.mgt := rfl

/-- A command that serves an object completes with this status, data and property, when its rule gives the state `u`
on `taken` and `u` differs from it in no block outside `l`. -/
theorem serves_of_rule {c : Instr} {s : State} {f : Frame} {rest : List Frame} {access object : Byte} {index : Nat}
    {params : List Byte} {objects : List Nat} {rule : Request → State → Reply} {status : Status} {data : List Byte}
    {l : List Block} {P : State → Prop} (u : State) (h : Requested s f rest access object index params)
    (hc : exec c s = .next (s.serve objects rule)) (hm : objects.contains object.toNat = true)
    (hrule : ∀ echo, rule (askedRequest f access object index echo params) (s.taken rest) =
      { state := u, status := status, data := data })
    (hspt : u.spt = (s.taken rest).spt) (hb : OnlyBlocks l (s.taken rest) u)
    (hP : ∀ x : Spt, x.tx.length = s.spt.tx.length + 1 → P (u.setSpt x)) :
    Serves c s f rest status.code data l P := by
  obtain ⟨echo, he, hresp⟩ := serve_of_requested h objects rule hm
  have hu := hrule echo
  refine ⟨_, hc.trans (congrArg _ he), ?_, ?_, ?_⟩
  · rw [hu]
    exact answered_of_send hspt (hresp status data)
  · rw [hu]
    refine ⟨?_, ?_⟩
    · exact hb.1
    · intro b hbm
      simp only [List.mem_cons, not_or] at hbm
      have := hb.2 b hbm.2
      cases b <;> simp_all [Block.same]
  · rw [hu]
    exact hP _ (by simp [hspt])

/-- A command that serves an object answers a reply that changes nothing. -/
theorem serves_unchanged {c : Instr} {s : State} {f : Frame} {rest : List Frame} {access object : Byte} {index : Nat}
    {params : List Byte} {objects : List Nat} {rule : Request → State → Reply} {status : Status} {data : List Byte}
    {l : List Block} (h : Requested s f rest access object index params)
    (hc : exec c s = .next (s.serve objects rule)) (hm : objects.contains object.toNat = true)
    (hrule : ∀ echo, rule (askedRequest f access object index echo params) (s.taken rest) =
      { state := s.taken rest, status := status, data := data }) :
    Serves c s f rest status.code data l (fun _ => True) :=
  serves_of_rule _ h hc hm hrule rfl (OnlyBlocks.refl _ _) (fun _ _ => trivial)

end Sys2Proof.Machine
end

