-- ==== Sys2Proof/Laws/Safety.lean ====
section
/-! SUPPORT. The invariants in a form that evaluates on a concrete state, and the finite tables as lists. -/

namespace Sys2Proof.Machine

theorem mem_all2 (i : Fin 2) : i ∈ all2 := by revert i; decide
theorem mem_all4 (i : Fin 4) : i ∈ all4 := by revert i; decide
theorem mem_all6 (i : Fin 6) : i ∈ all6 := by revert i; decide
theorem mem_all8 (i : Fin 8) : i ∈ all8 := by revert i; decide
theorem mem_all16 (i : Fin 16) : i ∈ all16 := by revert i; decide
theorem mem_all32 (i : Fin 32) : i ∈ all32 := by revert i; decide

theorem mem_allCauses (k : CauseKey) : k ∈ allCauses := by
  cases k <;> simp [allCauses, mem_all2, mem_all4, mem_all8]

/-- An index that is in range is found. -/
@[simp] theorem toFin_val {n : Nat} (i : Fin n) : toFin n i.val = some i := by simp [toFin]

/-- A property of what an option holds, as a test of the option. -/
theorem forall_some_iff {α : Type} (o : Option α) (p : α → Bool) :
    (∀ x, o = some x → p x = true) ↔ o.all p = true := by cases o <;> simp

/-- `LevelIsHighest` as a test over the 39 keys. -/
def levelTest (s : State) : Bool :=
  allCauses.all (fun k => (s.cause k).all (fun e => decide (e.level.rank ≤ s.ssd.level.rank))) &&
    (decide (s.ssd.level = .normal) || allCauses.any (fun k => (s.cause k).any (fun e => decide (e.level = s.ssd.level))))

theorem levelIsHighest_iff (s : State) : LevelIsHighest s ↔ levelTest s = true := by
  simp only [LevelIsHighest, levelTest, Bool.and_eq_true, Bool.or_eq_true, List.all_eq_true, List.any_eq_true,
    decide_eq_true_eq, Option.any_eq_true]
  constructor
  · rintro ⟨h, l⟩
    refine ⟨fun k _ => ?_, ?_⟩
    · rw [← forall_some_iff]; intro e he; simpa using h k e he
    · rcases l with l | ⟨k, e, he, hl⟩
      · exact .inl l
      · exact .inr ⟨k, mem_allCauses k, e, he, hl⟩
  · rintro ⟨h, l⟩
    refine ⟨fun k e he => ?_, ?_⟩
    · have := (forall_some_iff _ _).2 (h k (mem_allCauses k)) e he
      simpa using this
    · rcases l with l | ⟨k, -, e, he, hl⟩
      · exact .inl l
      · exact .inr ⟨k, e, he, hl⟩

/-- `WorkReserved` as a test. -/
def workTest (s : State) : Bool :=
  decide (s.jev.journal.length + s.openContexts + s.openDeliveries ≤ 256) &&
  decide (s.jev.reserved = s.openContexts + s.openDeliveries) &&
  all8.all (fun p => decide ((s.point p).context.isSome = (s.point p).state.isOpen)) &&
  all8.all (fun p => !(s.point p).context.isSome || (s.point p).config.isSome) &&
  (decide (s.mgt.commission ≠ .uncommissioned) ||
    (all8.all (fun p => decide ((s.point p).state = .uncommissioned)) &&
      all8.all (fun t => decide ((s.tank t).delivery = none)))) &&
  all8.all (fun t => (s.tank t).delivery.all (fun r => all16.any (fun o => (s.order o).any (fun x =>
    decide (x.reference = r) && decide (x.tank = t) && decide (x.state = .active))))) &&
  all16.all (fun o => (s.order o).all (fun x =>
    decide (x.state ≠ .active) || decide ((s.tank x.tank).delivery = some x.reference))) &&
  all16.all (fun o => (s.order o).all (fun x => all16.all (fun i => (s.order i).all (fun y =>
    decide (x.reference ≠ y.reference) || decide (o = i)))))

theorem workReserved_of_test {s : State} (h : workTest s = true) : WorkReserved s := by
  simp only [workTest, Bool.and_eq_true, decide_eq_true_eq, List.all_eq_true, Bool.or_eq_true] at h
  obtain ⟨⟨⟨⟨⟨⟨⟨h1, h2⟩, h3⟩, h4⟩, h5⟩, h6⟩, h7⟩, h8⟩ := h
  refine ⟨h1, h2, fun p => h3 p (mem_all8 p), fun p hp => ?_, fun hu => ?_, fun t r hr => ?_, fun o x ho ha => ?_,
    fun o i x y ho hi hxy => ?_⟩
  · have := h4 p (mem_all8 p)
    simpa [hp] using this
  · rcases h5 with h5 | h5
    · exact absurd hu h5
    · exact ⟨fun p => h5.1 p (mem_all8 p), fun t => h5.2 t (mem_all8 t)⟩
  · have := (forall_some_iff _ _).2 (h6 t (mem_all8 t)) r hr
    simp only [List.any_eq_true, Option.any_eq_true, Bool.and_eq_true, decide_eq_true_eq] at this
    obtain ⟨o, -, x, hx, ⟨h1, h2⟩, h3⟩ := this
    exact ⟨o, x, hx, h1, h2, h3⟩
  · have := (forall_some_iff _ _).2 (h7 o (mem_all16 o)) x ho
    simpa [ha] using this
  · have := (forall_some_iff _ _).2 (h8 o (mem_all16 o)) x ho
    have := (forall_some_iff _ _).2 (List.all_eq_true.1 this i (mem_all16 i)) y hi
    simpa [hxy] using this

/-- What the list of slots holds is in it. -/
theorem mem_of_lookupSlot {slot : Nat} {a : Account} {l : List (Nat × Account)} (h : lookupSlot slot l = some a) :
    (slot, a) ∈ l := by
  induction l with
  | nil => simp [lookupSlot] at h
  | cons e l ih =>
    simp only [lookupSlot] at h
    split at h
    · next hk => simp at h; subst h; subst hk; simp
    · exact List.mem_cons_of_mem _ (ih h)

/-- `AccountsRight` as a test. -/
def accountsTest (s : State) : Bool :=
  s.mac.accounts.all (fun e =>
    e.2.allowances.all (fun x => decide (x.committed = (all8.map (s.remainingOf e.1 x.product)).sum)) &&
      decide (e.2.openCount = all8.countP (s.opensFor e.1)) && decide (e.2.openCount ≤ 2)) &&
  all8.all (fun p => (s.point p).config.all (fun k => (s.point p).context.all (fun c =>
    (s.account c.account).any (fun a => (a.entryFor k.product).isSome))))

theorem accountsRight_of_test {s : State} (h : accountsTest s = true) : AccountsRight s := by
  simp only [accountsTest, Bool.and_eq_true, List.all_eq_true, decide_eq_true_eq] at h
  refine ⟨fun slot a ha => ?_, fun p k c hk hc => ?_⟩
  · obtain ⟨⟨h1, h2⟩, h3⟩ := h.1 _ (mem_of_lookupSlot ha)
    exact ⟨h1, h2, h3⟩
  · have := (forall_some_iff _ _).2 ((forall_some_iff _ _).2 (h.2 p (mem_all8 p)) k hk) c hc
    simpa [Option.any_eq_true] using this

/-- `NoStepFollows` as a test. -/
def noStepTest (s : State) (c : Context) : Bool :=
  c.run.all (fun r => all4.all (fun j => (s.slot j).all (fun x =>
    decide (x.runId ≠ r.1) || decide (x.state ≠ .active) || decide (c.endCause ≠ some .limitReached) ||
      decide (x.steps.length ≤ x.current) ||
      (decide (1 ≤ x.current) && (x.steps[x.current - 1]?).any (·.pauseAfter)))))

theorem noStepFollows_of_test {s : State} {c : Context} (h : noStepTest s c = true) : NoStepFollows s c := by
  intro id i j x hr hx hid ha
  simp only [noStepTest, hr, Option.all_some, List.all_eq_true] at h
  have := (forall_some_iff _ _).2 (h j (mem_all4 j)) x hx
  simpa [hid, ha, Option.any_eq_true, or_assoc] using this

/-- `Hands` as a test. -/
def handsTest (s : State) (f : Frame) (role : Role) (b : List Byte) : Bool :=
  s.fsm.hold.any (fun h => decide (h.frame = f) && (decide (s.fsm.loan = .lent) ||
    (decide (s.fsm.loan = .master) && decide (s.fsm.lrq = false) && h.inWindow && decide (frameKind f ≠ 0x12) &&
      match s.fsm.exchange with
      | some (.poll x) => decide (x.station = frameSource f) && decide (x.query = false) &&
          decide (x.goodReplies + 1 < x.burst)
      | _ => false))) &&
    decide (frameSource f ≠ 0) && decide (frameDest f ≠ 0) && decide (s.tks.lockouts = []) &&
    all4.all (fun k => decide ((s.sump k).stale = false)) &&
    (s.winner .fromField f).any (fun e => (decide (e.disposition = .act) || decide (e.disposition = .actPass)) &&
      decide (e.role = some role) && decide (((framePayload f).drop e.roleBase).take b.length = b))

theorem hands_of_test {s : State} {f : Frame} {role : Role} {b : List Byte} (h : handsTest s f role b = true) :
    Hands s f role b := by
  simp only [handsTest, Bool.and_eq_true, Bool.or_eq_true, Option.any_eq_true, decide_eq_true_eq,
    List.all_eq_true] at h
  obtain ⟨⟨⟨⟨⟨⟨x, hx, hf, hl⟩, h1⟩, h2⟩, h3⟩, h4⟩, e, he, ⟨hd, hr⟩, hb⟩ := h
  refine ⟨⟨x, hx, hf, ?_⟩, h1, h2, h3, fun k => h4 k (mem_all4 k), e,
    ((framePayload f).drop e.roleBase).drop b.length, he, hd, hr, ?_⟩
  · rcases hl with hl | ⟨⟨⟨⟨hm, hq⟩, hw⟩, hk⟩, hp⟩
    · exact .inl hl
    · refine .inr ⟨hm, hq, hw, hk, ?_⟩
      split at hp
      · next y hy => simp at hp; exact ⟨y, hy, hp.1.1, hp.1.2, hp.2⟩
      · simp at hp
  · exact ((congrArg (· ++ _) hb).symm.trans (List.take_append_drop _ _)).symm

end Sys2Proof.Machine
end

