-- ==== Sys2Proof/WellFormed.lean ====
section
/-! DEFINITION. Which commands are well formed. -/

namespace Sys2Proof

/-- A frame event reports a frame that began, so it carries at least one character (R1). Every other operand is
in range by its type. -/
def Instr.wellFormed : Instr → Bool
  | .siteFrameEnd chars _ => !chars.isEmpty
  | .fieldFrameEnd chars _ => !chars.isEmpty
  | _ => true

end Sys2Proof
end

