-- ==== Sys2Proof/Tests/Slice0.lean ====
section
/-! SUPPORT. Tests: worked figures of the manual, one step each on a small bay, and for every statement with
hypotheses a state and operands that meet them. A `witness_<Name>` theorem belongs to `Obligations.<Name>`. -/

namespace Sys2Proof.Tests

open Machine

-- Kernel evaluations one after another: each thread that waits for one holds a stack of its own.
set_option Elab.async false

/-! ### Well formed commands -/

theorem test_empty_site_frame_ill_formed : (Instr.siteFrameEnd [] false).wellFormed = false := by decide
theorem test_empty_field_frame_ill_formed : (Instr.fieldFrameEnd [] true).wellFormed = false := by decide
theorem test_one_character_well_formed : (Instr.siteFrameEnd [0] false).wellFormed = true := by decide
theorem test_no_word_spells_a_command : decodeTableWord 32 0x12345678 = none := by decide

/-! ### Worked figures of the manual -/

/-- R3: the check over the characters "1" to "9" is 0x29B1. -/
theorem test_check_of_123456789 :
    crc [0x31, 0x32, 0x33, 0x34, 0x35, 0x36, 0x37, 0x38, 0x39] = 0x29B1 := by decide +kernel

/-- Section 4.5: the factor of 32.4 degrees for a product of 830 ppm. -/
theorem test_factor_at_324 : vcf 830 324 = 985558 := by decide
/-- Section 4.6, first worked case: 472,320 counts at K 98,400 give 480,000 cL, and 473,068 net. -/
theorem test_net_first_case :
    grossOf 472320 98400 = 480000 ∧ corrected 480000 985558 = 473068 := by decide
/-- R57: 984 counts give 1,000 cL, 985 give 1,001, and a negative count none. -/
theorem test_gross_table : grossOf 1 98400 = 1 ∧ grossOf 984 98400 = 1000 ∧ grossOf 985 98400 = 1001 ∧
    grossOf (-37) 98400 = 0 := by decide
/-- R46: 1,640 counts in a window at K 98,400 are 1,000.0 L/min, 1,641 are 1,000.6. -/
theorem test_flow : flowOf 1640 98400 = some 10000 ∧ flowOf 1641 98400 = some 10006 := by decide
/-- R40, R41: the direction tables. -/
theorem test_quad_directions :
    edgeForward .quad .a true false = true ∧ edgeForward .quad .a false false = false ∧
      edgeForward .quad .b true false = false ∧ edgeForward .quad .b false false = true := by decide
/-- R124: a difference of 146 moves the rate by 37, and one of -146 by -37. -/
theorem test_burn_steps : smoothBurn (some 3000) 3146 = 3037 ∧ smoothBurn (some 3000) 2854 = 2963 := by decide
/-- R79: the first of equal bounds governs. -/
theorem test_first_of_equal_bounds :
    leastBound [(300, .preset), (200, .allowance), (200, .classMax), (900, .tank)] = (200, .allowance) := by decide

/-! ### A bay -/

/-- The state after a command. -/
def run (c : Instr) (s : State) : State := match exec c s with | .next t => t | _ => s

def channelCfg : ChannelConfig := { mode := .single, invert := false, glitch := 5, k := 98400, creepLimit := 400 }
def channel0 : Channel := { Reset.channel false false 0 with config := channelCfg }
def product0 : Product := { kind := .fuel, beta := 830, defaultTemp := 150, minDispense := 100, slowDown := 5000 }
def strap0 : List StrapPoint := [⟨0, 0⟩, ⟨1000, 1000000⟩, ⟨2000, 2500000⟩]
def tankCfg : TankConfig :=
  { product := 0, capacity := 2400000, gauge := 5, highHigh := 1900, safeFill := 2000000, low := 20000,
    lockout := 10000, lossThreshold := 5000 }
def tank0 : Tank :=
  { Reset.tank with
    config := some tankCfg, strap := some strap0, gauge := .valid, lastLevel := some 1500, applied := some 324,
    source := .sample, observed := some 1750000, gaugedNet := some 1724727, book := some 1724727,
    baseline := some 0, state := .normal }
def pointCfg : PointConfig :=
  { product := 0, tank := 0, pump := 0, reader := 6, panel := 7, maxFlow := 20000, stopLead := 0,
    tolerance := 500, slowOnly := false }
def point0 : Point := { Reset.point with config := some pointCfg, state := .idle }
def hours0 : HourRecord :=
  { lastAccepted := some 10000, wallTime := none, anchor := none, fuel := 0, pending := none, burnRate := none,
    rejected := 0 }
def account0 : Account :=
  { tag := 77, cls := 1, suspended := false, hoursRequired := false, serviceLock := false,
    allowances := [⟨0, some 500000, 1000, 0⟩], openCount := 0, hours := hours0, services := [] }
def class1 : ClassRecord := { Reset.cls with maxFill := 400000, offlineCap := 100000 }
def entry0 : PollEntry :=
  { station := 5, formats := 7, interval := 1000, staleness := 60, recallAge := 30, critical := true,
    state := .active, format := some 2, legacy := false, caps := some 7, stationType := some 1, matchCount := 0,
    ackCount := 0, legacyCount := 0, missCount := 0, dueTime := 0, due := false, dataTime := some 0,
    reportedFresh := true }
def run0 : Run :=
  { state := .suspended, runId := 9, account := 3, steps := [⟨0, 5000, true, .short, 2000⟩, ⟨0, 3000, false, .pending, 0⟩],
    current := 1, suspendReason := some .short, suspendDue := some 5000, startReading := none, ignored := 0,
    abandonReason := none }
def order0 : Order :=
  { reference := 12, tanker := 500, tank := 0, product := 0, ordered := 400000, state := .pending, permitted := 0,
    gross := 0, net := 0, posted := 0, lastTemp := 0, startTime := 0, startValid := false, endTime := 0,
    endCause := none, record := none }

/-- A COMMISSIONED bay: one product, tank, point, pump, account, poll list entry and order; 10 s of uptime. -/
def bay : State :=
  { State.reset with
    clock := 10000000,
    fsm := { Reset.fsm false with entries := upd (Reset.fsm false).entries 0 (some entry0) },
    mtc := { Reset.mtc with channels := Vector.replicate 8 channel0 },
    vau := { products := upd Reset.vau.products 0 (some product0), undefined := upd Reset.vau.undefined 0 [] },
    dpt := { points := upd Reset.dpt.points 0 point0,
             pumps := upd Reset.dpt.pumps 0 { Reset.pump with fitted := true } },
    mac := { classes := upd Reset.mac.classes 1 class1, accounts := [(3, account0)] },
    tks := { Reset.tks with
      tanks := upd Reset.tks.tanks 0 tank0, orders := upd Reset.tks.orders 0 (some order0) },
    mgt := { Reset.mgt with commission := .commissioned } }

/-- The bay with nothing commissioned. -/
def plain : State := { bay with
  dpt := { bay.dpt with points := upd Reset.dpt.points 0 { point0 with state := .uncommissioned } },
  mgt := Reset.mgt }

def context0 : Context :=
  { source := .tag, account := 3, tag := 77, run := none, hour := none, hourResult := .none, limit := 300000,
    governing := .classMax, startCount := 0, posted := 0, phaseErrors := 0, overspeed := 0, lastCount := 10000,
    overrun := false, startTime := 1, startValid := false, endCause := none, segBase := 0, segTemp := 324,
    segVcf := 985558, closedNet := 0, segCount := 1, reverse := false, saturated := false, tempHeld := false,
    clamped := false, authDue := 10000000, stoppingAt := 0, quietFrom := 0 }

/-- The bay with a transaction open at point 0 in a state, with this context, its channel counting `count`. -/
def filling (x : PointState) (c : Context) (count : BitVec 32) : State := { bay with
  dpt := { bay.dpt with points := upd bay.dpt.points 0 { point0 with state := x, context := some c } },
  mtc := { bay.mtc with channels := upd bay.mtc.channels 0 { channel0 with count := count } },
  mac := { bay.mac with accounts := [(3, { account0 with
    openCount := 1, allowances := [⟨0, some 500000, 1000, c.limit - c.posted⟩] })] },
  tks := { bay.tks with tanks := upd bay.tks.tanks 0 { tank0 with committed := c.limit - c.posted } },
  jev := { bay.jev with reserved := 1 } }

def fast : State := filling .fast context0 16400

/-! ### Requests -/

/-- A request frame from station 64. -/
def ask (access object : Byte) (index : Nat) (params : List Byte) : Frame :=
  [0, 64, 0x20, BitVec.ofNat 8 (params.length + 5)] ++
    ([access, object] ++ beBytes 2 index ++ [9] ++ params) ++ [0, 0]

/-- The state with that request alone in the site receive buffer. -/
def asking (s : State) (access object : Byte) (index : Nat) (params : List Byte) : State :=
  s.setSpt { s.spt with rx := [ask access object index params] }

/-- Any state that has room and no soft reset waiting can be asked anything. -/
theorem requested_asking {s : State} (access object : Byte) {index : Nat} (params : List Byte)
    (hm : s.mgt.softReset = none) (ht : s.spt.tx.length < 15) (hi : index < 65536) :
    Requested (asking s access object index params) (ask access object index params) [] access object index
      params := by
  refine ⟨⟨hm, rfl, ?_, ?_, ?_, .inr (.inl ?_)⟩, hi, 9, ?_⟩
  · simp [frameDest, num, slice, ask]
  · simp [frameKind, num, slice, ask]
  · simp [asking]; omega
  · simp [asking]; omega
  · simp [framePayload, ask, beBytes]

/-- The frame a run answers with: the last of the site transmit queue. -/
def reply (c : Instr) (s : State) : List Byte := framePayload ((run c s).spt.tx.getLastD [])

/-- A property of what an option holds, found by evaluation. -/
theorem holds {α : Type} {o : Option α} {P : α → Prop} [DecidablePred P] (h : o.all (fun x => decide (P x)) = true) :
    ∀ x, o = some x → P x := by
  intro x hx
  subst hx
  simpa using h

/-- A property of what every member of a table holds, found by evaluation. -/
theorem each {n : Nat} {α : Type} {f : Fin n → Option α} {P : Fin n → α → Prop} [∀ k x, Decidable (P k x)]
    (h : ∀ k, (f k).all (fun x => decide (P k x)) = true) : ∀ k x, f k = some x → P k x :=
  fun k => holds (h k)

/-! ### Steps, invariants and resets -/

theorem witness_StepRunsTheFrontCommand :
    (bay.setPending [.hornSilence, .commission]).pending = .hornSilence :: [.commission] ∧ bay.pending = [] :=
  ⟨rfl, rfl⟩

theorem witness_EveryCommandCompletes :
    Instr.wallClockTick ≠ .powerOn ∧ Instr.wallClockTick ≠ .lineReset ∧
      ∀ d, Instr.wallClockTick ≠ .softResetTaken d := by simp

theorem fast_work : WorkReserved fast := workReserved_of_test (by decide +kernel)
theorem bay_work : WorkReserved bay := workReserved_of_test (by decide +kernel)
theorem plain_work : WorkReserved plain := workReserved_of_test (by decide +kernel)
theorem bay_level : LevelIsHighest bay := (levelIsHighest_iff _).2 (by decide +kernel)
theorem bay_accounts (access object : Byte) (index : Nat) (params : List Byte) :
    AccountsDistinct (asking bay access object index params) := by
  show (List.map _ bay.mac.accounts).Pairwise _ ∧ ∀ e ∈ bay.mac.accounts, ∀ d ∈ bay.mac.accounts, _
  decide +kernel
theorem step_fast : step fast = .next (fast.setClock 10000001) := rfl

theorem witness_QueuesStayBounded : QueuesBounded fast ∧ step fast = .next (fast.setClock 10000001) :=
  ⟨by unfold QueuesBounded; decide +kernel, step_fast⟩
theorem witness_LevelStaysHighest : LevelIsHighest fast ∧ step fast = .next (fast.setClock 10000001) :=
  ⟨(levelIsHighest_iff _).2 (by decide +kernel), step_fast⟩
theorem witness_JournalStaysNumbered : JournalNumbered fast ∧ step fast = .next (fast.setClock 10000001) :=
  ⟨by unfold JournalNumbered; decide +kernel, step_fast⟩
theorem witness_AccountsStayDistinct : AccountsDistinct fast ∧ step fast = .next (fast.setClock 10000001) :=
  ⟨by unfold AccountsDistinct; decide +kernel, step_fast⟩
theorem witness_OpenWorkStaysReserved : WorkReserved fast ∧ step fast = .next (fast.setClock 10000001) :=
  ⟨fast_work, step_fast⟩
theorem witness_CommitmentsStayRight :
    WorkReserved fast ∧ CommitmentsRight fast ∧ step fast = .next (fast.setClock 10000001) :=
  ⟨fast_work, by unfold CommitmentsRight; decide +kernel, step_fast⟩
theorem witness_CommitmentsStayRight_accounts :
    WorkReserved fast ∧ AccountsDistinct fast ∧ AccountsRight fast ∧ step fast = .next (fast.setClock 10000001) :=
  ⟨fast_work, by unfold AccountsDistinct; decide +kernel, accountsRight_of_test (by decide +kernel), step_fast⟩

/-- A product write to a COMMISSIONED bay. -/
def lockedWrite : State := asking bay 2 0x01 0 (productBytes { product0 with beta := 0 })

theorem witness_CommissionedTablesStand :
    lockedWrite.mgt.commission = .commissioned ∧ Instr.productWrite ≠ .powerOn ∧ Instr.productWrite ≠ .lineReset ∧
      exec .productWrite lockedWrite = .next (run .productWrite lockedWrite) := ⟨rfl, by simp, by simp, rfl⟩

theorem witness_TotalisersChangeByCountsAlone :
    (∀ i, Instr.lineReset ≠ .meterCount 0 i) ∧ Instr.lineReset ≠ .powerOn ∧
      exec .lineReset fast = .next (run .lineReset fast) := ⟨by simp, by simp, rfl⟩

def stopping : State := filling .stopping { context0 with endCause := some .driverStop, stoppingAt := 5000000 } 16400

theorem stopping_work : WorkReserved stopping := workReserved_of_test (by decide +kernel)

/-- Both clauses: a CANCEL at a STOPPING point and at a running one, and a soft reset of a STOPPING one. -/
theorem witness_FirstEndStands :
    WorkReserved stopping ∧ Instr.cancel ≠ .settleEnd 0 ∧ Instr.cancel ≠ .powerOn ∧ Instr.cancel ≠ .lineReset ∧
      (∀ d, Instr.cancel ≠ .softResetTaken d) ∧ (stopping.point 0).context.isSome = true ∧
      (stopping.point 0).state = .stopping ∧ exec .cancel stopping = .next (run .cancel stopping) ∧
      WorkReserved fast ∧ (fast.point 0).context = some context0 ∧ (fast.point 0).state.running = true ∧
      exec .cancel fast = .next (run .cancel fast) ∧
      (stopping.setMgt { stopping.mgt with softReset := some 0 }).mgt.softReset = some 0 ∧
      WorkReserved (stopping.setMgt { stopping.mgt with softReset := some 0 }) :=
  ⟨stopping_work, by simp, by simp, by simp, by simp, by decide +kernel, by decide +kernel, rfl, fast_work,
    by decide +kernel, by decide +kernel, rfl, rfl, workReserved_of_test (by decide +kernel)⟩

def leaving : State := fast.setMgt { fast.mgt with softReset := some 0 }

theorem witness_SoftResetTaken : WorkReserved leaving ∧ leaving.mgt.softReset = some 0 :=
  ⟨workReserved_of_test (by decide +kernel), rfl⟩

/-- The bay with nothing open and all it can hold otherwise: a suspended run, a pending order, a latched cause, a
sump of a station, an enabled spill input that is wet. -/
def leavingBusy : State :=
  (((bay.setSlot 2 (some run0)).setSump 1 { Reset.sump with config := { station := 5, high := 300, highHigh := 600 } }
    ).setSpill 7 { Reset.spill true with enabled := true }).setMgt { bay.mgt with softReset := some 0 }

/-- The clauses of a run, an account, an order, a sump and a spill input that are not at rest. -/
theorem witness_SoftResetTaken_busy :
    WorkReserved leavingBusy ∧ leavingBusy.mgt.softReset = some 0 ∧ leavingBusy.slot 2 = some run0 ∧
      run0.state = .suspended ∧ (∀ p, (leavingBusy.point p).context = none) ∧
      leavingBusy.account 3 = some account0 ∧ leavingBusy.order 0 = some order0 ∧ order0.state ≠ .active ∧
      (leavingBusy.spill 7).enabled = true ∧ (leavingBusy.spill 7).raw ≠ (leavingBusy.spill 7).activeLow ∧
      leavingBusy.mgt.commission = .commissioned ∧ (leavingBusy.sump 1).config.station ≠ 0 ∧
      leavingBusy.fsm.lrq = false ∧ leavingBusy.fsm.counters.forwardDrops ≤ 65535 :=
  ⟨workReserved_of_test (by decide +kernel), rfl, by decide +kernel, rfl, by decide +kernel, by decide +kernel,
    by decide +kernel, by decide +kernel, by decide +kernel, by decide +kernel, rfl, by decide +kernel, rfl,
    by decide +kernel⟩

/-- R97, R171: the open fill is recorded with cause RESET. -/
theorem test_soft_reset_records_the_fill :
    (leaving.softResetBlocks 100).jev.journal.map Record.number = [1] ∧ (leaving.softResetBlocks 100).jev.reserved = 0 ∧
      (leaving.softResetBlocks 100).openContexts = 0 := by decide +kernel

/-- R163, R171: numbers that a reserved place exhausts stay exhausted through a line reset; with one to spare they are
not. -/
theorem test_numbers_stay_exhausted :
    let s := fun n => fast.setJev { fast.jev with nextNumber := n }
    (s 4294967295).jev.isFull = true ∧ (run .lineReset (s 4294967295)).jev.isFull = true ∧
      (run .lineReset (s 4294967294)).jev.isFull = false ∧ (run .powerOn (s 4294967295)).jev.isFull = false := by
  decide +kernel

/-! ### The site link -/

def poll64 : Frame := makeFrame 0 0x20 [3, 0x3E, 0, 0, 7]
/-- A frame with its check spoilt. -/
def spoilt : Frame := poll64.dropLast ++ [0]
def fullBuffer : State := bay.setSpt { bay.spt with rx := [poll64, poll64, poll64, poll64] }
def offline : State := bay.setMgt { bay.mgt with online := false, offlineSince := 4000 }

/-- Each clause: a framing error, a length of 5, a spoilt check, and a valid frame at an empty and at a full buffer,
ONLINE and OFFLINE. -/
theorem witness_SiteFrameEnds :
    let whole := fun (f : Frame) => 6 ≤ f.length ∧ f.length ≤ 126 ∧ num f 3 1 ≤ 120 ∧ num f 3 1 = f.length - 6
    let checks := fun (f : Frame) => beNat (f.drop (f.length - 2)) = (crc (f.take (f.length - 2))).toNat
    ¬whole [0, 0, 0, 0, 0] ∧ (whole spoilt ∧ ¬checks spoilt) ∧ (whole poll64 ∧ checks poll64) ∧
      bay.spt.rx.length < 4 ∧ 4 ≤ fullBuffer.spt.rx.length ∧ bay.mgt.online = true ∧ offline.mgt.online = false := by
  decide +kernel

theorem test_site_frame_overrun :
    (run (.siteFrameEnd poll64 false) fullBuffer).spt.counters.overruns = 1 ∧
      (run (.siteFrameEnd poll64 false) fullBuffer).spt.rx.length = 4 := by decide +kernel

def siteRule (d : Disposition) (gated : Bool) : ClassifierEntry :=
  { direction := .fromSite, segments := [⟨0, [0xFF], [7]⟩], role := none, roleBase := 0, disposition := d,
    gated := gated }
def toStation : Frame := [7, 64, 0x50, 0, 0, 0]
def routing (f : Frame) (e : Option ClassifierEntry) : State :=
  (bay.setSpt { bay.spt with rx := [f] }).setFcl { Reset.fcl with table := upd Reset.fcl.table 4 e }
def toStationZero : Frame := [0, 64, 0x50, 0, 0, 0]
def tooShort : Frame := makeFrame 0 0x20 [3, 0x3E, 0, 0]

/-- Each clause: a frame for station 0, an unmatched one, ones dropped and passed, and the two answered requests. -/
theorem witness_SiteFrameRouted :
    frameDest toStationZero = 0 ∧ frameKind toStationZero ≠ 0x20 ∧
      (routing toStationZero none).spt.rx = toStationZero :: [] ∧ (routing toStationZero none).mgt.softReset = none ∧
      frameDest toStation ≠ 0 ∧ (routing toStation none).winner .fromSite toStation = none ∧
      (routing toStation (some (siteRule .drop false))).winner .fromSite toStation = some (siteRule .drop false) ∧
      (routing toStation (some (siteRule .pass true))).winner .fromSite toStation = some (siteRule .pass true) ∧
      (framePayload tooShort).length < 5 ∧ (framePayload (ask 3 0x1F 0 [])).length = 5 ∧
      ¬((0x01 ≤ (0x1F : Byte).toNat ∧ (0x1F : Byte).toNat ≤ 0x0F) ∨
        (0x20 ≤ (0x1F : Byte).toNat ∧ (0x1F : Byte).toNat ≤ 0x3E)) := by decide +kernel
theorem witness_SiteFrameRouted_takes :
    Takes (bay.setSpt { bay.spt with rx := [tooShort] }) tooShort [] ∧
      Requested (asking bay 3 0x1F 0 []) (ask 3 0x1F 0 []) [] 3 0x1F 0 [] :=
  ⟨by unfold Takes; decide +kernel, requested_asking 3 0x1F [] rfl (by decide) (by decide)⟩

theorem test_short_request_is_bad_length :
    (run .siteFrameRouted (bay.setSpt { bay.spt with rx := [tooShort] })).spt.tx =
      [makeFrame 0 0x21 [3, 0x3E, 0, 0, 0, 1]] := by decide +kernel

/-- The site transmit queue at 15 frames with a request and an event waiting: the last place is contested. -/
def contested (w : Waiter) : State :=
  (asking State.reset 3 0x3E 0 []).setSpt
    { rx := [ask 3 0x3E 0 []], tx := List.replicate 15 [], lastContested := w, counters := Reset.siteCounters }

theorem witness_SiteQueueMoves :
    (contested .event).spt.tx = [] :: List.replicate 14 [] ∧
      (contested .event).jev.queue = Reset.resetDone 1 0 0 :: [] ∧ (contested .event).spt.tx.length < 16 ∧
      frameDest (ask 3 0x3E 0 []) = 0 ∧ frameKind (ask 3 0x3E 0 []) = 0x20 ∧
      (contested .event).spt.lastContested = .event ∧ (contested .management).spt.lastContested = .management := by
  decide +kernel

/-- R8: the contested place alternates. -/
theorem test_contested_place_alternates :
    run .eventMoved (contested .event) = contested .event ∧
      (run .statusRead (contested .event)).spt.tx.length = 16 ∧
      run .statusRead (contested .management) = contested .management ∧
      (run .eventMoved (contested .management)).spt.lastContested = .event := by decide +kernel

theorem witness_LowestMatchingEntryWins :
    ∀ i x y, (routing toStation (some (siteRule .pass true))).fcl.table[(i : Fin 32).val] = some x →
      y ∈ x.segments → y.value.length = y.mask.length := by
  have h : ∀ (i : Fin 32) x, (routing toStation (some (siteRule .pass true))).fcl.table[i.val] = some x →
      ∀ y ∈ x.segments, y.value.length = y.mask.length := each (by decide +kernel)
  exact fun i x y hx hy => h i x hx y hy

/-! ### The bay segment -/

/-- A poll of the bay's entry whose reply window closes now. -/
def poll0 : PollExchange :=
  { entry := 0, station := 5, query := false, burst := 8, start := 9980, deadline := some 10000000, goodReplies := 0,
    live := true }
def polled (x : PollExchange) : State := bay.setFsm { bay.fsm with exchange := some (.poll x) }
/-- A frame from station 5 for station 0. -/
def gaugeFrame : Frame := [0, 5, 0x50, 0, 0, 0]
def holding (inWindow : Bool) (f : Frame) (s : State) : State :=
  s.setFsm { s.fsm with hold := some { frame := f, inWindow := inWindow, endedAt := s.clock } }

/-- Each clause: a frame at the moment of the deadline and with no exchange; the faults, an empty hold and a full. -/
theorem witness_FieldFrameReceived :
    let whole := fun (f : Frame) => 6 ≤ f.length ∧ f.length ≤ 126 ∧ num f 3 1 ≤ 120 ∧ num f 3 1 = f.length - 6
    let checks := fun (f : Frame) => beNat (f.drop (f.length - 2)) = (crc (f.take (f.length - 2))).toNat
    (polled poll0).driving = false ∧ (polled poll0).fsm.receiving = none ∧
      (polled poll0).fsm.exchange = some (.poll poll0) ∧ poll0.deadline = some 10000000 ∧
      bay.driving = false ∧ bay.fsm.receiving = none ∧ bay.fsm.exchange = none ∧ bay.fsm.lrq = false ∧
      ¬whole [0, 0, 0, 0, 0] ∧ (whole spoilt ∧ ¬checks spoilt) ∧ (whole poll64 ∧ checks poll64) ∧
      bay.fsm.hold = none ∧ (holding false gaugeFrame bay).fsm.hold ≠ none ∧
      (holding false gaugeFrame bay).driving = false := by
  decide +kernel

/-- A valid frame of station 5. -/
def goodFrame : Frame := [0, 5, 0x50, 0, 0x61, 0x8F]
/-- A poll whose reply is heard, with what it began as, with a loan or not, and with a frame held before it or not. -/
def hearing (r : Option Receiving) (l : Loan) (x : PollExchange) (h : Option Held) : State :=
  (polled x).setFsm { (polled x).fsm with receiving := r, loan := l, lrq := decide (l ≠ .master), hold := h }

/-- A frame that ends during a poll exchange, from the polled station and another, begun in it, after it and with
no start heard; the exchange live and not, with a loan that waits for its end and with none. -/
theorem witness_FieldFrameReceived_reply :
    (∀ r ∈ [none, some ⟨true⟩, some ⟨false⟩], ∀ l ∈ [Loan.master, .granting], ∀ live ∈ [true, false],
      ∀ h ∈ [none, some ⟨gaugeFrame, true, 9999000⟩],
        let x := { poll0 with live := live }
        let s := hearing r l x h
        s.driving = false ∧ (s.fsm.lrq = false ∨ s.fsm.loan ≠ .master) ∧ s.fsm.exchange = some (.poll x) ∧
          x.deadline = some 10000000 ∧ s.entry x.entry = some entry0) ∧
      frameSource poll64 ≠ poll0.station ∧ frameSource goodFrame = poll0.station ∧
      (6 ≤ goodFrame.length ∧ goodFrame.length ≤ 126 ∧ num goodFrame 3 1 = goodFrame.length - 6 ∧
        beNat (goodFrame.drop 4) = (crc (goodFrame.take 4)).toNat) := by
  decide +kernel

/-- R21: an invalid frame ends the exchange and counts a miss; a valid one moves the deadline 5 ms on. -/
theorem test_frame_of_a_reply :
    let s := hearing (some ⟨true⟩) .granting poll0 none
    ((run (.fieldFrameEnd [5] true) s).entry 0).map (·.missCount) = some 1 ∧
      (run (.fieldFrameEnd [5] true) s).fsm.exchange = none ∧ (run (.fieldFrameEnd [5] true) s).fsm.loan = .lent ∧
      (run (.fieldFrameEnd goodFrame false) s).fsm.exchange =
        some (.poll { poll0 with deadline := some 10005000 }) := by decide +kernel

/-- R22: a frame that begins at the deadline is in the reply window, and one a microsecond later is not. -/
theorem test_reply_window_edge :
    (run .fieldFrameStart (polled poll0)).fsm.receiving = some ⟨true⟩ ∧
      (run .fieldFrameStart ((polled poll0).setClock 10000001)).fsm.receiving = some ⟨false⟩ := by decide +kernel

/-- The bay lent, with a frame heard. -/
def heard (f : Frame) (s : State) : State := (holding false f s).setFsm { (holding false f s).fsm with
  loan := .lent, lrq := true }
def foreignFrame : Frame := [9, 40, 0x50, 0, 0, 0]
/-- A poll of the entry in a state, with a reply held. -/
def replying (x : PollExchange) (e : PollEntry) (f : Frame) : State :=
  holding true f (bay.setFsm { bay.fsm with exchange := some (.poll x), entries := upd bay.fsm.entries 0 (some e) })

/-- The last reply of a burst, from an ACTIVE entry and from a SILENT one. -/
theorem witness_HeldFrameTaken_ends :
    let x := { poll0 with goodReplies := 7 }
    (∀ st ∈ [EntryState.active, .silent],
      let s := replying x { entry0 with state := st } gaugeFrame
      s.fsm.hold = some ⟨gaugeFrame, true, 10000000⟩ ∧ s.fsm.loan = .master ∧ s.fsm.lrq = false ∧
        s.fsm.exchange = some (.poll x) ∧ s.entry x.entry = some { entry0 with state := st } ∧ s.tks.lockouts = []) ∧
      x.burst ≤ x.goodReplies + 1 ∧ x.query = false ∧ x.live = true ∧ (∀ k, (bay.sump k).stale = false) := by
  decide +kernel

/-- Snooped: a frame for station 0 from the entry's station and from another, and one for another station. -/
theorem witness_HeldFrameTaken_snooped :
    (heard gaugeFrame bay).fsm.hold = some ⟨gaugeFrame, false, 10000000⟩ ∧ (heard gaugeFrame bay).fsm.loan = .lent ∧
      frameDest gaugeFrame = 0 ∧ frameKind gaugeFrame ≠ 0x40 ∧ frameKind gaugeFrame ≠ 0x12 ∧
      (heard gaugeFrame bay).entry 0 = some entry0 ∧ entry0.station = frameSource gaugeFrame ∧
      (∀ k y, (heard gaugeFrame bay).entry k = some y → y.station = frameSource gaugeFrame → k = 0) ∧
      (∀ k y, (heard foreignFrame bay).entry k = some y → y.station ≠ frameSource foreignFrame) ∧
      (heard foreignFrame bay).fsm.hold = some ⟨foreignFrame, false, 10000000⟩ ∧ frameDest foreignFrame ≠ 0 ∧
      (heard foreignFrame bay).winner .fromField foreignFrame = none ∧ (heard foreignFrame bay).tks.lockouts = [] :=
  ⟨by decide +kernel, rfl, by decide +kernel, by decide +kernel, by decide +kernel, by decide +kernel,
    by decide +kernel,
    each (P := fun k (y : PollEntry) => y.station = frameSource gaugeFrame → k = 0) (by decide +kernel),
    each (P := fun _ (y : PollEntry) => y.station ≠ frameSource foreignFrame) (by decide +kernel), by decide +kernel⟩

/-- A frame of kind 0x12 with fewer than 3 bytes, no ANNOUNCE, and an ANNOUNCE for station 9, from the entry's station. -/
def shortAnnounce : Frame := [0, 5, 0x12, 2, 6, 1, 0, 0]
def announceToNine : Frame := [9, 5, 0x12, 3, 6, 1, 0, 0, 0]
def gaugeToNine : Frame := [9, 5, 0x50, 0, 0, 0]

/-- Snooped or a reply: the short frame, a listed station's frame for station 9 and an ANNOUNCE for it; replies to POLL
and to JOIN_QUERY, MASTER and GRANTING, the burst's last or not, the exchange live or not. -/
theorem witness_HeldFrameTaken_forms :
    (frameKind shortAnnounce = 0x12 ∧ (framePayload shortAnnounce).length = 2 ∧ frameDest shortAnnounce = 0 ∧
        frameKind announceToNine = 0x12 ∧ 3 ≤ (framePayload announceToNine).length ∧ frameDest announceToNine = 9 ∧
        frameDest gaugeToNine = 9 ∧ ∀ f ∈ [shortAnnounce, announceToNine, gaugeToNine], frameSource f = entry0.station) ∧
      ∀ f ∈ [shortAnnounce, announceToNine, gaugeToNine], (heard f bay).fsm.hold = some ⟨f, false, 10000000⟩ ∧
        (heard f bay).entry 0 = some entry0 ∧ (heard f bay).winner .fromField f = none ∧
        ∀ l ∈ [Loan.master, .granting], ∀ live ∈ [true, false], ∀ x ∈ [poll0, { poll0 with goodReplies := 7 },
            { poll0 with query := true, burst := 1 }],
          let x := { x with live := live }
          let s := hearing none l x (some ⟨f, true, 10000000⟩)
          s.fsm.hold = some ⟨f, true, 10000000⟩ ∧ s.fsm.loan ≠ .lent ∧ (s.fsm.lrq = false ∨ s.fsm.loan ≠ .master) ∧
            s.fsm.exchange = some (.poll x) ∧ s.entry x.entry = some entry0 ∧ s.tks.lockouts = [] ∧
            (∀ k, (s.sump k).stale = false) ∧ s.winner .fromField f = none := by decide +kernel

/-- R22, R24, R25, R33, R183: the short frame and a good reply for station 9 are fresh data, the ANNOUNCE is not; each is
counted toward the burst, and the ones for station 9 are classified. -/
theorem test_held_frame_forms :
    let data := fun s => ((run .fieldFrameTaken s).entry 0).bind (·.dataTime)
    let s := fun f => run .fieldFrameTaken (hearing none .granting poll0 (some ⟨f, true, 10000000⟩))
    [shortAnnounce, announceToNine, gaugeToNine].map (fun f => data (heard f bay)) = [some 10000, some 0, some 10000] ∧
      [shortAnnounce, announceToNine, gaugeToNine].map (fun f => (s f).fsm.counters.unclassified) = [0, 1, 1] ∧
      ∀ f ∈ [shortAnnounce, announceToNine, gaugeToNine],
        (s f).fsm.exchange = some (.poll { poll0 with goodReplies := 1 }) := by decide +kernel

/-- A reply from another station than the polled one, and snooped frames that an entry passes, bars or drops. -/
def winning (d : Disposition) (gated : Bool) (s : State) : State := s.setFcl { Reset.fcl with
  table := upd Reset.fcl.table 4 (some {
    direction := .fromField, segments := [⟨0, [0xFF], [9]⟩], role := none, roleBase := 0, disposition := d,
    gated := gated }) }
theorem witness_HeldFrameTaken_others :
    ((holding true foreignFrame (polled poll0)).fsm.hold = some ⟨foreignFrame, true, 10000000⟩ ∧
        frameSource foreignFrame ≠ poll0.station) ∧
      ∀ d ∈ [Disposition.pass, .drop], ∀ g ∈ [false, true],
        ((winning d g (heard foreignFrame bay)).winner .fromField foreignFrame).map (·.disposition) = some d := by
  decide +kernel

theorem test_held_frames_of_others :
    let sent := fun d g l => (run .fieldFrameTaken ((winning d g (heard foreignFrame bay)).setSsd { bay.ssd with
      level := l })).spt
    (run .fieldFrameTaken (holding true foreignFrame (polled poll0))).fsm.counters.unsolicited = 1 ∧
      (sent .pass false .isolate).tx = [foreignFrame] ∧ (sent .drop false .normal).tx = [] ∧
      (sent .pass true .bayStop).counters.drops = 1 := by decide +kernel

/-- R23, R25, R33: the burst's end brings a SILENT entry back, and a snooped frame is fresh data of its station. -/
theorem test_held_frames :
    ((run .fieldFrameTaken (replying { poll0 with goodReplies := 7 } { entry0 with state := .silent } gaugeFrame)).entry
        0).map (fun e => (e.state, e.dueTime)) = some (.active, 10980) ∧
      ((run .fieldFrameTaken (heard gaugeFrame bay)).entry 0).bind (·.dataTime) = some 10000 ∧
      (run .fieldFrameTaken (heard gaugeFrame bay)).fsm.counters.unsolicited = 1 ∧
      (run .fieldFrameTaken (heard foreignFrame bay)).fsm.counters.unclassified = 1 := by decide +kernel

/-- Both clauses, the burst's last frame but one among them. -/
theorem witness_HeldFrameTaken :
    (holding false gaugeFrame bay).fsm.hold = some ⟨gaugeFrame, false, 10000000⟩ ∧ bay.fsm.loan = .master ∧
      bay.fsm.lrq = false ∧ bay.tks.lockouts = [] ∧
      (∀ n ∈ [0, 6],
        let x := { poll0 with goodReplies := n }
        let s := holding true gaugeFrame (polled x)
        s.fsm.hold = some ⟨gaugeFrame, true, 10000000⟩ ∧ s.fsm.loan = .master ∧ s.fsm.lrq = false ∧
          s.fsm.exchange = some (.poll x) ∧ x.query = false ∧ x.goodReplies + 1 < x.burst ∧
          frameSource gaugeFrame = x.station ∧ frameDest gaugeFrame = 0 ∧ frameKind gaugeFrame ≠ 0x12 ∧
          s.entry x.entry = some entry0 ∧ entry0.station = x.station) ∧
      ∀ k y, (holding true gaugeFrame (polled poll0)).entry k = some y → y.station = poll0.station →
        k = poll0.entry :=
  ⟨by decide +kernel, by decide +kernel, by decide +kernel, by decide +kernel, by decide +kernel,
    each (P := fun k (y : PollEntry) => y.station = poll0.station → k = poll0.entry) (by decide +kernel)⟩

def forward0 : Forward := { frame := toStation, sort := .site false, joined := 5001 }
def stale0 : Forward := { frame := toStation, sort := .site false, joined := 5000 }
def waiting (q : List Forward) (g : Grant) (x : EntryState) (due : Bool) : State := bay.setFsm { bay.fsm with
  queue := q, lastGrant := g, entries := upd bay.fsm.entries 0 (some { entry0 with state := x, due := due }) }

/-- Each clause: a frame alone and in its turn; an entry alone, beside a frame as old as 5 s, and in its turn. -/
theorem witness_SegmentGranted :
    (bay.fsm.exchange = none ∧ bay.fsm.receiving = none ∧ bay.fsm.freeAt ≤ bay.clock ∧ bay.fsm.loan = .master) ∧
      (waiting [forward0] .forwardQueue .active false).pollCandidate = none ∧
      (waiting [forward0] .forwardQueue .active false).ms - forward0.joined < 5000 ∧
      (waiting [forward0] .poll .active true).fsm.lastGrant = .poll ∧
      (∀ x ∈ [EntryState.absent, .joining, .acking, .active, .silent],
        (waiting [] .poll x true).pollCandidate = some (0, { entry0 with state := x, due := true })) ∧
      5000 ≤ (waiting [stale0] .poll .active true).ms - stale0.joined ∧
      (waiting [forward0] .forwardQueue .active true).fsm.lastGrant = .forwardQueue ∧
      (waiting [forward0] .forwardQueue .active true).pollCandidate.isSome = true := by decide +kernel

/-- R21: an ACTIVE entry of format 2 is polled for a burst of 8. -/
theorem test_poll_frame :
    (run .segmentGrant (waiting [] .poll .active true)).fsm.lineOut = some (makeFrame 5 0x10 [2]) ∧
      (run .segmentGrant (waiting [forward0] .poll .active true)).fsm.lineOut = some toStation := by decide +kernel

def forwarding (l : Loan) : State := bay.setFsm { bay.fsm with exchange := some .forward, loan := l, lrq := true }

theorem witness_SegmentFramesSent :
    (forwarding .master).fsm.exchange = some .forward ∧ (forwarding .master).fsm.loan ≠ .granting ∧
      (forwarding .granting).fsm.exchange = some .forward ∧ (forwarding .granting).fsm.loan = .granting ∧
      (polled { poll0 with deadline := none }).fsm.exchange = some (.poll { poll0 with deadline := none }) := by
  decide +kernel

def missing (n : Nat) (x : PollExchange) : State :=
  (polled x).setFsm { (polled x).fsm with
    entries := upd bay.fsm.entries 0 (some { entry0 with missCount := n }) }

/-- Each clause: a second miss, a third, and a window with a good reply. -/
theorem witness_ReplyWindowRunsOut :
    ∀ n ∈ [0, 1, 2, 255], ∀ g ∈ [0, 1],
      let x := { poll0 with goodReplies := g }
      let s := missing n x
      s.fsm.exchange = some (.poll x) ∧ x.deadline = some s.clock ∧ s.replyInHand = false ∧ x.live = true ∧
        s.entry x.entry = some { entry0 with missCount := n } ∧ entry0.state = .active ∧ s.fsm.loan = .master ∧
        s.fsm.lrq = false := by decide +kernel
theorem witness_ReplyWindowRunsOut_states :
    ∀ st ∈ [EntryState.absent, .joining, .acking, .silent, .incompatible],
      let s := (polled poll0).setFsm { (polled poll0).fsm with
        entries := upd bay.fsm.entries 0 (some { entry0 with state := st, missCount := 2 }) }
      s.entry 0 = some { entry0 with state := st, missCount := 2 } ∧ s.replyInHand = false := by decide +kernel

/-! The join handshake. -/

/-- An ANNOUNCE of station 5: its capabilities, its type 1, and its echo byte. -/
def announceFrame (caps echo : Byte) : Frame := [0, 5, 0x12, 3, caps, 1, echo, 0, 0]
def query0 : PollExchange := { poll0 with query := true, burst := 1 }
def joining (x : PollEntry) (caps echo : Byte) : State := replying query0 x (announceFrame caps echo)
/-- The entry in a state, two ANNOUNCEs of caps 6 and two acknowledged ones taken. -/
def entryIn (st : EntryState) (formats : Byte) : PollEntry :=
  { entry0 with state := st, format := none, formats := formats, caps := some 6, matchCount := 2, ackCount := 2 }

/-- The entry polled is the only one in use. -/
theorem replying_alone (x : PollExchange) (e : PollEntry) (f : Frame) :
    ∀ k y, (replying x e f).entry k = some y → y.station = x.station → k = 0 := by
  intro k y hy _
  by_cases hk : k = 0
  · exact hk
  · have h : ¬(0 : Nat) = k.val := fun h => hk (Fin.ext h.symm)
    have : (replying x e f).entry k = none := by
      simp [replying, holding, State.entry, State.setFsm, upd, bay, Reset.fsm, h]
    simp [this] at hy

/-- Each clause: an ANNOUNCE of the entry's caps and of others in each state it is judged in, acknowledged and not, with
a format that both allow and with none; a reply that is no ANNOUNCE; and an ANNOUNCE to POLL, its burst's last or not. -/
theorem witness_StationsJoin :
    (∀ st ∈ [EntryState.absent, .joining, .acking], ∀ caps ∈ [(6 : Byte), 2], ∀ echo ∈ [(0 : Byte), 1],
        ∀ formats ∈ [(7 : Byte), 1],
      let s := joining (entryIn st formats) caps echo
      let f := announceFrame caps echo
      s.fsm.hold = some ⟨f, true, 10000000⟩ ∧ s.fsm.loan = .master ∧ s.fsm.lrq = false ∧ s.tks.lockouts = [] ∧
        (∀ k, (s.sump k).stale = false) ∧ s.fsm.exchange = some (.poll query0) ∧ frameSource f = query0.station ∧
        frameDest f = 0 ∧ s.entry query0.entry = some (entryIn st formats) ∧ frameKind f = 0x12 ∧
        framePayload f = caps :: 1 :: echo :: []) ∧
      (query0.query = true ∧ query0.burst ≤ query0.goodReplies + 1 ∧ query0.live = true) ∧
      ((entryIn .joining 7).matchCount = 2 ∧ (entryIn .acking 7).ackCount = 2 ∧
        ((6 : Byte).getLsbD 2 = true ∧ (7 : Byte).getLsbD 2 = true) ∧
        ∀ g, g ≤ 2 → ¬((6 : Byte).getLsbD g = true ∧ (1 : Byte).getLsbD g = true)) ∧
      (frameKind gaugeFrame ≠ 0x12 ∧ (replying query0 (entryIn .acking 7) gaugeFrame).fsm.hold =
        some ⟨gaugeFrame, true, 10000000⟩) ∧
      (poll0.query = false ∧ poll0.goodReplies + 1 < poll0.burst ∧ entry0.state = .active) ∧
      ∀ k y, (joining (entryIn .absent 7) 6 0).entry k = some y → y.station = query0.station → k = query0.entry :=
  ⟨by decide +kernel, by decide +kernel, by decide +kernel, by decide +kernel, by decide +kernel,
    replying_alone query0 _ _⟩

/-- R28, R29: the third acknowledged ANNOUNCE resolves format 2, and a second plain reply joins a legacy station. -/
theorem test_station_joins :
    ((run .fieldFrameTaken (joining (entryIn .acking 7) 6 1)).entry 0).map (fun e => (e.state, e.format)) =
        some (.active, some 2) ∧
      ((run .fieldFrameTaken (joining (entryIn .acking 1) 6 1)).entry 0).map (·.state) = some .incompatible ∧
      ((run .fieldFrameTaken (replying query0 { entryIn .joining 7 with legacyCount := 1 } gaugeFrame)).entry 0).map
        (fun e => (e.state, e.format, e.legacy)) = some (.active, some 0, true) := by decide +kernel

/-- R23: the third miss makes an entry SILENT. -/
theorem test_third_miss :
    (run .replyWindowTimeout (missing 1 poll0)).entry 0 =
        some { entry0 with missCount := 2, dueTime := 10980 } ∧
      ((run .replyWindowTimeout (missing 2 poll0)).entry 0).map (fun e => (e.state, e.dueTime)) =
        some (.silent, 14980) := by decide +kernel

def dueAt (n : Nat) : State :=
  bay.setFsm { bay.fsm with entries := upd bay.fsm.entries 0 (some { entry0 with dueTime := n }) }

theorem witness_SegmentFramesSent_timers :
    (dueAt 10000).entry 0 = some { entry0 with dueTime := 10000 } ∧ entry0.state ≠ .incompatible ∧
      (dueAt 10000).ms = 10000 ∧ (dueAt 10000).fsm.exchange = none := by decide +kernel

def sump0 : Sump := { Reset.sump with config := { station := 5, high := 300, highHigh := 600 } }
/-- The bay with a sump whose conditions stand as given. -/
def sumpAs (high highHigh : Bool) : State := { bay with ssd := { bay.ssd with
  sumps := upd bay.ssd.sumps 1 { sump0 with high := high, highHigh := highHigh } } }
/-- The bay a millisecond after its gauge's data ceased to be fresh. -/
def late : State := { bay with clock := 60001000, ssd := { bay.ssd with sumps := upd bay.ssd.sumps 1 sump0 } }

theorem witness_StationDataGoesStale :
    late.entry 0 = some entry0 ∧ entry0.reportedFresh = true ∧
      (∀ d, entry0.dataTime = some d → entry0.staleness * 1000 < late.ms - d) ∧
      (late.tank 0).config = some tankCfg ∧ tankCfg.gauge = entry0.station ∧
      (late.sump 1).config.station = entry0.station ∧ entry0.station ≠ 0 ∧
      late.mgt.commission = .commissioned :=
  ⟨by decide +kernel, rfl, holds (by decide +kernel), by decide +kernel, by decide +kernel, by decide +kernel,
    by decide +kernel, rfl⟩

/-- R25: data is fresh at its staleness, and stale a millisecond later. -/
theorem test_stale_after_60_seconds :
    run (.stationDataStale 0) (late.setClock 60000999) = late.setClock 60000999 ∧
      ((run (.stationDataStale 0) late).tank 0).gauge = .stale ∧
      ((run (.stationDataStale 0) late).cause (.sumpStale 1)).isSome = true := by decide +kernel

/-! ### Loans -/

def lendable (s : State) : State := s.setMgt { s.mgt with params := { s.mgt.params with loanEnable := true } }
def lent (recalled : Bool) (due : Option Nat) : State := (lendable bay).setFsm { bay.fsm with
  lrq := true, loan := .lent, recalled := recalled, recallDue := due,
  entries := upd bay.fsm.entries 0 (some { entry0 with recallAge := 10 }) }
def limited : State := (lent false none).setMgt { bay.mgt with params := { bay.mgt.params with loanLimit := 10 } }

/-- Each clause: not ready, ready at an exchange, ready at once; the limit and the recall age at their last moment. -/
theorem witness_LoanGrantedAndRecalled :
    bay.fsm.loan = .master ∧ bay.mgt.params.loanEnable = false ∧
      (lendable bay).mgt.params.loanEnable = true ∧
      (∀ k x, (lendable bay).entry k = some x → x.critical = true →
        x.state = .active ∧ x.isFresh (lendable bay).ms = true) ∧
      (lendable bay).fsm.exchange = none ∧ (lendable (polled poll0)).fsm.exchange ≠ none ∧
      limited.fsm.loan = .lent ∧ limited.mgt.params.loanLimit * 1000 = limited.ms - limited.fsm.grantedAt ∧
      limited.fsm.recalled = false ∧ (lent true (some 1)).fsm.recalled = true ∧
      (∀ x, limited.entry 0 = some x → x.state = .active ∧ x.recallAge ≠ 0 ∧
        x.recallAge * 1000 = limited.ms - max 0 limited.fsm.grantedAt ∧ x.dataTime = some 0) :=
  ⟨by decide +kernel, by decide +kernel, by decide +kernel,
    each (P := fun _ (x : PollEntry) => x.critical = true → x.state = .active ∧ x.isFresh (lendable bay).ms = true)
      (by decide +kernel),
    by decide +kernel, by decide +kernel, by decide +kernel, by decide +kernel, by decide +kernel, by decide +kernel,
    holds (P := fun (x : PollEntry) => x.state = .active ∧ x.recallAge ≠ 0 ∧
        x.recallAge * 1000 = limited.ms - max 0 limited.fsm.grantedAt ∧ x.dataTime = some 0) (by decide +kernel)⟩

/-- R30, R34: a ready bay lends at once, and the recall age raises the recall with its timeout. -/
theorem test_loan_granted_and_recalled :
    (run .lrqRise (lendable bay)).fsm.loan = .lent ∧ (run .lrqRise bay).fsm.loan = .master ∧
      (run .lrqRise (lendable (polled poll0))).fsm.loan = .granting ∧
      (run (.recallAgeReached 0) limited).fsm.recallDue = some 20000 ∧
      (run .loanLimitReached limited).fsm.recalled = true := by decide +kernel

/-- Each clause. -/
theorem witness_LoanGrantedAndRecalled_timeout :
    (lent true (some 10000)).fsm.loan = .lent ∧ (lent true (some 10000)).fsm.recallDue = some (lent true none).ms ∧
      (lent true none).fsm.recallDue = none ∧ (lent true none).fsm.recalled = true ∧
      exec .recallTimeout (lent true none) = .next (lent true none) ∧
      exec .lrqFall (lent true none) = .next (run .lrqFall (lent true none)) ∧
      (lendable bay).fsm.loan ≠ .lent ∧ exec .lrqRise (lendable bay) = .next (run .lrqRise (lendable bay)) ∧
      (run .lrqRise (lendable bay)).fsm.loan = .lent :=
  ⟨by decide +kernel, by decide +kernel, rfl, rfl, rfl, rfl, by decide +kernel, rfl, by decide +kernel⟩

/-- The bay lent, with its order being delivered. -/
def delivering : State := { lent false none with
  tks := { bay.tks with
    tanks := upd bay.tks.tanks 0 { tank0 with delivery := some 12 },
    orders := upd bay.tks.orders 0 (some { order0 with state := .active, permitted := 250000 }) },
  jev := { bay.jev with reserved := 1 } }

theorem witness_LoanEnds :
    (bay.fsm.loan = .master ∧ (forwarding .granting).fsm.loan = .granting) ∧
      (WorkReserved (lent false none) ∧ (lent false none).fsm.loan = .lent ∧ (lent false none).openDeliveries = 0) ∧
      WorkReserved delivering ∧ delivering.fsm.loan = .lent ∧ delivering.openDeliveries = 1 ∧
      delivering.order 0 = some { order0 with state := .active, permitted := 250000 } :=
  ⟨by decide +kernel, ⟨workReserved_of_test (by decide +kernel), rfl, by decide +kernel⟩,
    workReserved_of_test (by decide +kernel), rfl, by decide +kernel⟩

/-- R145: the loan's end ends the delivery and records it. -/
theorem test_loan_end_records_the_delivery :
    ((run .lrqFall delivering).order 0).map (fun o => (o.state, o.endCause)) =
        some (.ended, some (.ended .loanEnded)) ∧
      (run .lrqFall delivering).jev.journal.map Record.number = [1] ∧
      ((run .lrqFall delivering).tank 0).delivery = none := by decide +kernel

/-- A REQUEST of order 12 from station 40. -/
def deliveryFrame : Frame :=
  [0, 40, 0x40, 9] ++ ([1] ++ beBytes 2 12 ++ beBytes 4 500 ++ [0, 0]) ++ [0, 0]
def requesting : State := holding false deliveryFrame (lent false none)
def answer0 : Answer := { frame := makeFrame 40 0x41 [1], endedAt := 9995000 }
def answering (r : Option Receiving) (clock : Nat) : State :=
  ((lent false none).setFsm { (lent false none).fsm with answer := some answer0, receiving := r }).setClock clock

/-- An answer that waits 10 us after its frame ended, the part's own last frame driven until one moment and the line
idle long enough at the other. -/
def answeringAfter (drivingUntil freeAt : Nat) : State :=
  let s := answering none 9995010
  s.setFsm { s.fsm with drivingUntil := drivingUntil, freeAt := freeAt }

/-- Each clause: a request that is accepted, an answer at its last moment, one too late and one with a character. -/
theorem witness_DeliveriesAreAnswered :
    (WorkReserved requesting ∧ ∀ k y, requesting.entry k = some y → y.station ≠ frameSource deliveryFrame) ∧
      (requesting.fsm.loan = .lent ∧ requesting.fsm.hold = some ⟨deliveryFrame, false, 10000000⟩ ∧
        requesting.tks.lockouts = [] ∧ frameDest deliveryFrame = 0 ∧ frameKind deliveryFrame = 0x40 ∧
        framePayload deliveryFrame = [1] ++ beBytes 2 order0.reference ++ beBytes 4 order0.tanker ++
          [BitVec.ofNat 8 order0.tank.val, BitVec.ofNat 8 order0.product.val] ∧
        requesting.mgt.commission = .commissioned ∧ requesting.order 0 = some order0 ∧ order0.state = .pending ∧
        1 ≤ order0.reference ∧ order0.reference ≤ 65535 ∧ 1 ≤ order0.tanker ∧ order0.tanker ≤ 4294967295) ∧
      ((requesting.tank 0).config = some tankCfg ∧ tankCfg.product = order0.product ∧
        (requesting.tank 0).gauge = .valid ∧ (requesting.tank 0).observed = some 1750000 ∧
        (requesting.tank 0).lastLevel = some 1500 ∧ 1500 < tankCfg.highHigh ∧ requesting.ssd.level ≠ .isolate ∧
        (requesting.tank 0).delivery = none ∧ requesting.jev.journal.length + requesting.jev.reserved < 256 ∧
        requesting.jev.nextNumber + requesting.jev.reserved ≤ 4294967295 ∧ 1750000 < tankCfg.safeFill) ∧
      (answering none 10000000).fsm.loan = .lent ∧ (answering none 10000000).fsm.answer = some answer0 ∧
      (answering none 10000000).clock = answer0.endedAt + 5000 ∧
      answer0.endedAt + 5000 < (answering none 10000001).clock ∧
      (answering (some ⟨false⟩) 10000000).fsm.receiving ≠ none ∧
      (answering none 9995010).driving = false ∧ (answeringAfter 9995011 9995131).driving = true ∧
      (answeringAfter 9995010 9995130).driving = false ∧
      (answeringAfter 9995010 9995130).clock < (answeringAfter 9995010 9995130).fsm.freeAt :=
  ⟨⟨workReserved_of_test (by decide +kernel),
      each (P := fun _ (y : PollEntry) => y.station ≠ frameSource deliveryFrame) (by decide +kernel)⟩,
    by decide +kernel⟩

/-- R1: an answer waits for the part's own frame and its 3 character times, and is then sent. -/
theorem test_answer_waits :
    run .deliveryAnswerSend (answeringAfter 9995010 9995130) = answeringAfter 9995010 9995130 ∧
      (run .deliveryAnswerSend (answeringAfter 9995000 9995010)).fsm.answer = none ∧
      (run .deliveryAnswerSend (answeringAfter 9995000 9995010)).fsm.lineOut = some answer0.frame := by decide +kernel

/-- R141, R142: the request is accepted for the ullage, 2,000,000 less 1,750,000 cL. -/
theorem test_delivery_permits_the_ullage :
    ((run .fieldFrameTaken requesting).order 0).map (·.permitted) = some 250000 ∧
      (run .fieldFrameTaken requesting).fsm.answer.map (·.frame) =
        some (makeFrame 40 0x41 ([1, 0, 12, 1] ++ beBytes 4 250000 ++ [0, 0, 0, 0, 0])) := by decide +kernel

/-- A RUNNING or END frame from station 40: phase, reference, tanker, gross and temperature. -/
def progressFrame (phase : Byte) (reference tanker gross : Nat) (temp : Int) : Frame :=
  [0, 40, 0x40, 13] ++ ([phase] ++ beBytes 2 reference ++ beBytes 4 tanker ++ beBytes 4 gross ++ beBytesInt 2 temp) ++
    [0, 0]
/-- The order while 1,000 cL of its 250,000 have been reported. -/
def order1 : Order := { order0 with state := .active, permitted := 250000, gross := 1000, net := 986, posted := 986 }
def progressing (x : Order) (f : Frame) : State :=
  let s := holding false f delivering
  { s with tks := { s.tks with orders := upd s.tks.orders 0 (some x) } }
def closedOrder (x : OrderState) : State := holding false (progressFrame 2 12 500 0 0)
  { lent false none with tks := { bay.tks with
      orders := upd bay.tks.orders 0 (some { order0 with state := x, endCause := some (.ended .tankerEnd) }) } }

/-- Each phase at each gross: below the last, at it, below the permitted volume and at it; another tanker and an
unknown reference; and a PENDING and an ENDED order. -/
theorem witness_DeliveryProgress :
    (∀ phase ∈ [(2 : Byte), 3], ∀ g ∈ [999, 1000, 249999, 250000], ∀ r ∈ [12, 13], ∀ k ∈ [500, 501],
      let f := progressFrame phase r k g 324
      let s := progressing order1 f
      s.fsm.loan = .lent ∧ s.fsm.hold = some ⟨f, false, 10000000⟩ ∧ s.tks.lockouts = [] ∧ frameDest f = 0 ∧
        frameKind f = 0x40 ∧ framePayload f =
          [phase] ++ beBytes 2 r ++ beBytes 4 k ++ beBytes 4 g ++ beBytesInt 2 324 ++ [] ∧
        s.mgt.commission = .commissioned ∧ s.order 0 = some order1 ∧ workTest s = true) ∧
      (∀ k y, (progressing order1 (progressFrame 2 12 500 999 324)).entry k = some y → y.station ≠ 40) ∧
      (∀ o y, (progressing order1 (progressFrame 2 13 500 999 324)).order o = some y → y.reference ≠ 13) ∧
      bay.product order1.product = some product0 ∧
      ∀ x ∈ [OrderState.pending, .ended], workTest (closedOrder x) = true ∧
        (closedOrder x).order 0 = some { order0 with state := x, endCause := some (.ended .tankerEnd) } :=
  ⟨by decide +kernel, each (P := fun _ (y : PollEntry) => y.station ≠ 40) (by decide +kernel),
    each (P := fun _ (y : Order) => y.reference ≠ 13) (by decide +kernel), by decide +kernel⟩

/-- R71, R142, R143: 249,999 cL at 32.4 degrees are 246,389 net, and the book takes what that is above the net posted;
the next centilitre ends the delivery. -/
theorem test_delivery_progress :
    let s := run .fieldFrameTaken (progressing order1 (progressFrame 2 12 500 249999 324))
    let t := run .fieldFrameTaken (progressing order1 (progressFrame 2 12 500 250000 324))
    (s.order 0).map (fun x => (x.state, x.net)) = some (.active, 246389) ∧
      (s.tank 0).book = some (1724727 + 246389 - 986) ∧
      (t.order 0).map (fun x => (x.state, x.endCause)) = some (.ended, some (.ended .permitReached)) ∧
      t.jev.journal.length = 1 ∧ (t.tank 0).delivery = none := by decide +kernel

/-! ### Meter channels -/

def withChannel (c : Channel) (s : State) : State := s.setChannel 0 c
/-- Inputs whose raw levels differ from their filtered levels since the times given. -/
def edging (mode : DecodeMode) (a b : Input) : Channel :=
  { channel0 with config := { channelCfg with mode := mode }, inputA := a, inputB := b }
def still (level : Bool) : Input := { raw := level, level := level, since := none }
def edge (level : Bool) (t : Nat) : Input := { raw := !level, level := level, since := some t }
def detector (x : Input) (armed : Option (Fin 8)) (capture : Option Capture) (s : State) : State :=
  s.setMtc { s.mtc with prover := x, armed := armed, capture := capture }

/-- The last two clauses: a falling detector edge at its last moment, and edges of each mode that make no count. -/
theorem witness_InputsAreFiltered :
    (detector (edge true 9999980) none none bay).mtc.prover.since = some 9999980 ∧ 9999980 + 20 = bay.clock ∧
      (detector (edge true 9999980) none none bay).mtc.prover.level = true ∧
      (∀ x ∈ [edging .single (edge true 9999995) (still false), edging .single (edge false 9999995) (still false),
          edging .double (still false) (edge false 9999995),
          edging .double (edge false 9999990) (edge false 9999995)],
        ∀ i ∈ [MeterInput.a, .b], (x.input i).since = some 9999995 →
          9999995 + x.config.glitch = (withChannel x bay).clock) ∧
      (∀ i ∈ [MeterInput.a, .b],
        let x := edging .single (edge (i = .a) 9999995) (edge false 9999995)
        x.config.mode = .single ∧ (i = .b ∨ (x.input i).level = true) ∧ (x.input i).since = some 9999995) ∧
      (edging .double (edge false 9999990) (edge false 9999995)).inputA.since ≠ some 9999995 := by decide +kernel

/-- R38, R39: timings of 60 and 30 us at a filter of 100 that a write makes 20 fall at one sample; at a filter of 50
each keeps its own start while that is not reached. -/
theorem witness_InputsAreFiltered_refilter :
    (edge false 9999940).since = some 9999940 ∧ 10000000 ≤ 9999940 + 100 ∧ 10000000 ≤ 9999970 + 100 ∧
      9999940 + 20 ≤ 10000000 ∧ 9999970 + 20 ≤ 10000000 ∧
      ((edge false 9999940).refilter 100 20 10000000).since = ((edge false 9999970).refilter 100 20 10000000).since ∧
      ((edge false 9999970).refilter 100 50 10000000).since = some 9999970 := by decide +kernel

/-- The bay shut by an UNAUTHORISED_FLOW entry of point 0. -/
def blamed (l : Level) : State := bay.setSsd { bay.ssd with
  causes := upd bay.ssd.causes (CauseKey.place (.unauthorisedFlow 0)) (some { active := false, level := l }), level := l }

/-- A single count edge of a mode, on input A from its low level, with a creep accumulator. -/
def counting (mode : DecodeMode) (invert : Bool) (creep : Nat) : Channel :=
  { channel0 with
    config := { channelCfg with mode := mode, invert := invert }, inputA := edge false 9999995, creep := creep }

/-- Each mode in each direction, below the creep limit and at it. -/
theorem witness_CountTaken :
    (∀ m ∈ [DecodeMode.single, .double, .quad], ∀ v ∈ [false, true], ∀ n ∈ [0, 398, 399],
      let x := counting m v n
      let y := x.input .a
      let other := (x.input .b).level
      let table := m = .single ∨ y.level = other
      let forward := decide (table ↔ v = false)
      y.since = some 9999995 ∧ 9999995 + x.config.glitch ≤ bay.clock ∧ y.level = false ∧
        (x.config.mode = .single ∨ x.inputA.since ≠ x.inputB.since) ∧
        (((withChannel x bay).point 0).context = none) ∧ (forward = true ↔ (table ↔ x.config.invert = false))) ∧
      (400 ≤ 399 + 1 ∧ ¬(400 ≤ 398 + 1)) ∧
      (withChannel (counting .quad false 399) bay).mgt.commission = .commissioned ∧
      (withChannel (counting .quad false 399) bay).cause (.unauthorisedFlow 0) = none := by decide +kernel

/-- A count at a point whose context is in a state, limited to what a further count brings it to or not. -/
def countingAt (x : PointState) (limit : Nat) : State :=
  withChannel { counting .double false 0 with count := 16399 } (filling x { context0 with limit := limit } 0)

/-- Each state of an open context: STOPPING, AUTHORISED, and FAST and SLOW away from the limit, within the slow-down
volume of it and at it; and a point with an UNAUTHORISED_FLOW entry already. -/
theorem witness_CountTaken_open :
    (∀ x ∈ [PointState.stopping, .authorised, .fast, .slow], ∀ l ∈ [16425, 21425, 21426],
      let s := countingAt x l
      let y := s.channel 0
      y.inputA.since = some 9999995 ∧ y.config.mode = .double ∧ y.inputA.since ≠ y.inputB.since ∧
        (s.point 0).state = x ∧ (s.point 0).context = some { context0 with limit := l } ∧
        (s.point 0).config = some pointCfg ∧ s.product pointCfg.product = some product0) ∧
      (∀ l ∈ [Level.bayStop, .isolate],
        (withChannel (counting .quad false 399) (blamed l)).cause (.unauthorisedFlow 0) =
          some { active := false, level := l } ∧ LevelIsHighest (withChannel (counting .quad false 399) (blamed l))) := by
  refine ⟨by decide +kernel, fun l hl => ?_⟩
  have h : ∀ l ∈ [Level.bayStop, .isolate],
      (withChannel (counting .quad false 399) (blamed l)).cause (.unauthorisedFlow 0) =
        some { active := false, level := l } ∧ levelTest (withChannel (counting .quad false 399) (blamed l)) = true := by
    decide +kernel
  exact ⟨(h l hl).1, (levelIsHighest_iff _).2 (h l hl).2⟩

/-- R88: 16,400 counts are 16,425 cL net; a limit of that stops the point, and one 5,000 cL above it slows it down. -/
theorem test_count_checks :
    ((run (.meterCount 0 .a) (countingAt .fast 16425)).point 0).state = .stopping ∧
      ((run (.meterCount 0 .a) (countingAt .fast 21425)).point 0).state = .slow ∧
      ((run (.meterCount 0 .a) (countingAt .fast 21426)).point 0).state = .fast := by decide +kernel

/-- R40, R49: a count below the creep limit, and the one that reaches it. -/
theorem test_creep_limit :
    ((run (.meterCount 0 .a) (withChannel (counting .quad false 398) bay)).channel 0).creep = 399 ∧
      (run (.meterCount 0 .a) (withChannel (counting .quad false 399) bay)).ssd.level = .bayStop ∧
      ((run (.meterCount 0 .a) (withChannel (counting .quad true 0) bay)).channel 0).count = 0xFFFFFFFF := by
  decide +kernel

/-- Both inputs at one sample, with no context, with the fifteenth and the sixteenth error of one; and each clause of
the prover. -/
theorem witness_PhaseErrorsAndCaptures :
    (∀ m ∈ [DecodeMode.double, .quad],
      let x := edging m (edge false 9999995) (edge true 9999995)
      x.config.mode ≠ .single ∧ x.inputA.since = some 9999995 ∧ x.inputB.since = some 9999995 ∧
        9999995 + x.config.glitch ≤ bay.clock ∧ ((withChannel x bay).point 0).context = none ∧
        ((withChannel x fast).point 0).context = some context0) ∧
      ((filling .slow { context0 with phaseErrors := 15 } 0).point 0).context =
        some { context0 with phaseErrors := 15 } ∧
      (∀ a ∈ [none, some 7], ∀ c ∈ [none, some ⟨7, 5, 9000, false⟩],
        let s := detector (edge false 9999980) a c bay
        s.mtc.prover.since = some 9999980 ∧ 9999980 + 20 ≤ s.clock ∧ s.mtc.prover.level = false ∧ s.mtc.armed = a ∧
          s.mtc.capture = c) := by decide +kernel

/-- R51: the capture takes the armed channel's count. -/
theorem test_capture :
    (run .proverEdge (detector (edge false 9999980) (some 0) none fast)).mtc.capture =
      some ⟨0, 16400, 10000, false⟩ := by decide +kernel

def windowed (n : Int) (reverse : Bool) : State :=
  withChannel { channel0 with window := n, reverse := reverse, windowDue := 10000 } bay

/-- Each sign of the window count, and the creep window's boundary. -/
theorem witness_WindowsClose :
    (∀ n ∈ [-1, 0, 1, 1640], ∀ r ∈ [false, true],
      ((windowed n r).channel 0).windowDue = (windowed n r).ms ∧ ((windowed n r).point 0).state.flowing = false ∧
        (windowed n r).tks.lockouts = []) ∧
      (bay.setClock 30000000).mtc.creepDue = (bay.setClock 30000000).ms := by decide +kernel

/-- R45, R46: 1,640 counts at K 98,400 are 1,000.0 L/min. -/
theorem test_window_of_1640 :
    ((run (.rateWindowClose 0) (windowed 1640 false)).channel 0).flow = some 10000 ∧
      ((run (.rateWindowClose 0) (windowed (-1) false)).channel 0).reverse = true := by decide +kernel

theorem witness_WindowsClose_posting :
    (fast.channel 0).windowDue ≤ fast.ms ∧ (fast.point 0).state.flowing = true ∧
      (fast.point 0).config = some pointCfg ∧ (fast.point 0).context = some context0 ∧
      (fast.account context0.account).isSome = true ∧ (fast.figures 0 context0).net ≠ context0.posted := by
  decide +kernel

/-- A point that flows at a closing window of `n` counts, its max flow 1,000.0 L/min. -/
def closing (c : Context) (n : Int) : State :=
  withChannel { channel0 with count := 16400, window := n, windowDue := 10000 }
    ((filling .fast c 16400).setPoint 0 { point0 with
      config := some { pointCfg with maxFlow := 10000 }, state := .fast, context := some c })

/-- Each end: a first and a second window above the max flow, one at it, no count for the no-flow time and for a
millisecond less, 16 phase errors and 15. -/
theorem witness_WindowsClose_ends :
    (∀ e ∈ [(0, 10000, 0), (1, 10000, 0), (0, 0, 0), (0, 1, 0), (0, 10000, 15), (0, 10000, 16)], ∀ n ∈ [1640, 1641],
      let c := { context0 with overspeed := e.1, lastCount := e.2.1, phaseErrors := e.2.2 }
      ((closing c n).channel 0).windowDue = (closing c n).ms ∧ ((closing c n).point 0).state.flowing = true ∧
        ((closing c n).point 0).config = some { pointCfg with maxFlow := 10000 } ∧
        ((closing c n).point 0).context = some c) ∧
      (closing context0 0).mgt.params.noFlowTime * 1000 ≤ 60000 ∧ 10000 < (2 * (1641 * 600000) + 98400) / (2 * 98400) ∧
      ¬10000 < (2 * (1640 * 600000) + 98400) / (2 * 98400) := by decide +kernel

/-- R89: OVERSPEED at the second window above the max flow, METER_FAULT at 16 phase errors, NO_FLOW before it. -/
theorem test_window_ends :
    let after := fun c n => ((run (.rateWindowClose 0) (closing c n)).point 0).context.map (fun (d : Context) =>
      (d.endCause, d.overspeed))
    after context0 1641 = some (none, 1) ∧ after { context0 with overspeed := 1 } 1641 = some (some .overspeed, 2) ∧
      after { context0 with overspeed := 1 } 1640 = some (none, 0) ∧
      after { context0 with phaseErrors := 16 } 0 = some (some .meterFault, 0) ∧
      after { context0 with phaseErrors := 15 } 0 = some (none, 0) := by decide +kernel

/-- R66, R82: 16,400 counts are 16,666 cL, 16,425 net; the book falls by the net. -/
theorem test_window_posts :
    fast.figures 0 context0 = { fast.figures 0 context0 with gross := 16666, net := 16425 } ∧
      ((run (.rateWindowClose 0) fast).tank 0).book = some 1708302 ∧
      (((run (.rateWindowClose 0) fast).account 3).map (·.allowances)) = some [⟨0, some 500000, 17425, 283575⟩] := by
  decide +kernel

/-! ### Volume arithmetic -/

/-- Each clause: counts forward and back, a gross in the segment and before it; and the ends of the ranges. -/
theorem witness_VolumeFiguresAreExact :
    context0.closedNet ≤ 4000000000 ∧ (figures context0 0x80000000 1000).count ≤ 0 ∧
      0 ≤ (figures context0 0x7FFFFFFF 4000000).count ∧ (figures context0 16400 98400).gross < 4000000000 ∧
      context0.segBase ≤ (figures context0 16400 98400).gross ∧ (figures context0 16400 98400).net < 4000000000 ∧
      (figures { context0 with segBase := 20000 } 16400 98400).gross < 20000 := by decide +kernel

/-- Section 4.2: the least and the greatest factor. -/
theorem test_extreme_factors : vcf 2000 800 = 870000 ∧ vcf 2000 (-500) = 1130000 ∧ vcf 2000 150 = 1000000 := by
  decide +kernel

def strap1 : List StrapPoint := [⟨10, 500⟩, ⟨1000, 1000000⟩, ⟨2000, 2500000⟩]

/-- A well-formed table, with a level below it, at each point, between points and above. -/
theorem witness_StrappingInterpolates :
    strap1.head? = some ⟨10, 500⟩ ∧ strap1.getLast? = some ⟨2000, 2500000⟩ ∧ wellFormedStrap (some strap1) = true ∧
      strap1[1]? = some ⟨1000, 1000000⟩ ∧ strap1[2]? = some ⟨2000, 2500000⟩ ∧ (1000 ≤ 1000 ∧ 1000 < 2000) ∧
      (2000 = 2000 ∧ 1 + 2 = strap1.length) ∧ (9 < 10 ∧ 2000 < 2001) := by decide +kernel

theorem test_strap_values :
    strapVolume strap1 9 = 500 ∧ strapVolume strap1 1500 = 1750000 ∧ strapVolume strap1 2001 = 2500000 := by
  decide +kernel

/-! ### Dispense points -/

def levelled (l : Level) (s : State) : State := s.setSsd { s.ssd with level := l }

theorem witness_OutputsFollowTheLevel :
    (levelled .bayStop fast).ssd.level ≠ .normal ∧ (levelled .isolate delivering).ssd.level = .isolate ∧
      fast.ssd.level = .normal ∧ (fast.point 0).state = .fast ∧ (fast.point 0).config = some pointCfg := by
  decide +kernel

/-- A delivery whose inlet valve is open, and that with each condition of R145 failed. -/
theorem witness_OutputsFollowTheLevel_inlet :
    (WorkReserved delivering ∧ delivering.inletValve 0 = true) ∧ WorkReserved bay ∧ bay.inletValve 0 = false ∧
      ∀ x ∈ [{ delivering.tank 0 with gauge := .stale }, { delivering.tank 0 with lastLevel := some 1900 },
          { delivering.tank 0 with lastLevel := none }],
        WorkReserved (delivering.setTank 0 x) ∧ (delivering.setTank 0 x).inletValve 0 = false := by
  refine ⟨⟨workReserved_of_test (by decide +kernel), by decide +kernel⟩, bay_work, by decide +kernel, fun x hx => ?_⟩
  have h : ∀ x ∈ [{ delivering.tank 0 with gauge := .stale }, { delivering.tank 0 with lastLevel := some 1900 },
      { delivering.tank 0 with lastLevel := none }],
      workTest (delivering.setTank 0 x) = true ∧ (delivering.setTank 0 x).inletValve 0 = false := by decide +kernel
  exact ⟨workReserved_of_test (h x hx).1, (h x hx).2⟩

def authorised : State := filling .authorised context0 0

/-- Asked of a state that can take it. -/
abbrev Asked (s : State) (access object : Byte) (index : Nat) (params : List Byte) : Prop :=
  Requested (asking s access object index params) (ask access object index params) [] access object index params

theorem asked (s : State) (access object : Byte) (index : Nat) (params : List Byte)
    (h : (s.mgt.softReset.isNone && decide (s.spt.tx.length < 15)) = true := by decide +kernel)
    (hi : index < 65536 := by decide) : Asked s access object index params := by
  simp only [Bool.and_eq_true, Option.isNone_iff_eq_none, decide_eq_true_eq] at h
  exact requested_asking access object params h.1 h.2 hi

def pointAs (x : PointState) : State := bay.setPoint 0 { point0 with state := x }

/-- The timer at its last moment, and CANCEL at a running, a STOPPING and three closed points. -/
theorem witness_PointsAreStopped :
    ((authorised.point 0).state = .authorised ∧ (authorised.point 0).context = some context0 ∧
        context0.authDue = authorised.clock) ∧
      Asked fast 3 0x27 0 [] ∧ (fast.point 0).state.running = true ∧ (fast.point 0).context = some context0 ∧
      Asked stopping 3 0x27 0 [] ∧ (stopping.point 0).state = .stopping ∧
      Asked bay 3 0x27 7 [] ∧ (bay.point 7).state = .uncommissioned ∧ (bay.point 0).state = .idle ∧
      Asked (pointAs .disabled) 3 0x27 0 [] ∧ ((pointAs .disabled).point 0).state = .disabled :=
  ⟨by decide +kernel, asked .., by decide +kernel, by decide +kernel, asked .., by decide +kernel, asked ..,
    by decide +kernel, by decide +kernel, asked .., by decide +kernel⟩

theorem test_cancel :
    ((run .cancel (asking fast 3 0x27 0 [])).point 0).state = .stopping ∧
      reply .cancel (asking bay 3 0x27 0 []) = [3, 0x27, 0, 0, 9, 8] := by decide +kernel

/-- A transaction of no run, at the longest a settle can last. -/
theorem witness_SettleCompletes :
    (stopping.point 0).state = .stopping ∧ (stopping.point 0).config = some pointCfg ∧
      (stopping.point 0).context = some { context0 with endCause := some .driverStop, stoppingAt := 5000000 } ∧
      context0.run = none ∧ 5000000 + 5000000 = stopping.clock := by decide +kernel

/-- R97: the record of a transaction that its driver stopped. -/
theorem test_settle_record :
    ((run (.settleEnd 0) stopping).jev.journal.map (fun r => r.bytes.take 9)) = [[1, 0, 0, 0, 1, 0, 0, 0, 1]] ∧
      ((run (.settleEnd 0) stopping).point 0).lastNet = 16425 ∧
      (run (.settleEnd 0) stopping).jev.reserved = 0 ∧ ((run (.settleEnd 0) stopping).tank 0).committed = 0 := by
  decide +kernel

/-- Step `current` of a run is settling at the point with that end cause. -/
def stepContext (i : Nat) (cause : EndCause) : Context :=
  { context0 with source := .run, run := some (9, i), endCause := some cause, stoppingAt := 5000000 }
def settling (x : Run) (cause : EndCause) : State :=
  (filling .stopping (stepContext x.current cause) 16400).setSlot 2 (some x)
def stepRun (state : RunState) (current : Nat) (pause : Bool) : Run :=
  { run0 with state := state, current := current, suspendReason := none, suspendDue := none,
              steps := [⟨0, 20000, pause, .pending, 100⟩, ⟨0, 3000, false, .pending, 0⟩] }

/-- A step of a run whose end nothing follows: abandoned, SHORT, the last, and one that pauses; and one that the next
step follows. -/
theorem witness_SettleCompletes_runs :
    (∀ e ∈ [(stepRun .abandoned 1 false, EndCause.limitReached), (stepRun .active 1 false, .driverStop),
        (stepRun .active 2 false, .limitReached), (stepRun .active 1 true, .limitReached)],
      NoStepFollows (settling e.1 e.2) (stepContext e.1.current e.2) ∧
        ((settling e.1 e.2).point 0).context = some (stepContext e.1.current e.2) ∧
        (settling e.1 e.2).slot 2 = some e.1 ∧ e.1.runId = 9) ∧
      (∀ q y, (settling (stepRun .active 1 false) .limitReached).slot q = some y → y.runId = 9 → q = 2) ∧
      (stepRun .active 1 false).steps[1]? = some ⟨0, 3000, false, .pending, 0⟩ ∧
      ((stepRun .active 1 false).steps[0]?).map (·.pauseAfter) = some false ∧
      (settling (stepRun .active 1 false) .limitReached).tks.lockouts = [] := by
  refine ⟨fun e he => ⟨noStepFollows_of_test ?_, ?_⟩,
    each (P := fun q (y : Run) => y.runId = 9 → q = 2) (by decide +kernel), by decide +kernel⟩
  all_goals revert e; decide +kernel

/-- The run after the settle's end, less what it was before. -/
def afterStep (x : Run) (cause : EndCause) : Option Run := (run (.settleEnd 0) (settling x cause)).slot 2
def stepDone (x : Run) (result : StepResult) : Run := { x with steps := [⟨0, 20000, (x.steps.map (·.pauseAfter)).headD false,
  result, 16525⟩, ⟨0, 3000, false, .pending, 0⟩] }

/-- R105: what becomes of the run in each of those cases; the net is 16,425 cL, and 100 were there before. -/
theorem test_run_step_ends :
    afterStep (stepRun .abandoned 1 false) .limitReached = some (stepDone (stepRun .abandoned 1 false) .ok) ∧
      afterStep (stepRun .active 1 false) .driverStop = some { stepDone (stepRun .active 1 false) .short with
        state := .suspended, suspendReason := some .short, suspendDue := some 1810000 } ∧
      (afterStep (stepRun .active 2 false) .limitReached).map (·.state) = some .done ∧
      afterStep (stepRun .active 1 true) .limitReached = some { stepDone (stepRun .active 1 true) .ok with
        state := .suspended, suspendReason := some .pause, suspendDue := some 1810000 } ∧
      afterStep (stepRun .active 1 false) .limitReached = some { stepDone (stepRun .active 1 false) .ok with
        current := 2 } := by decide +kernel

def pumping (carried since : Nat) (on : Bool) : State :=
  bay.setPump 0 { Reset.pump with fitted := true, on := on, onSince := since, carried := carried }

/-- A flowing point at its panel's period, and a pump at its whole second. -/
theorem witness_PointsAreStopped_timers :
    (fast.point 0).state.flowing = true ∧ ((fast.setClock 2000000).point 0).statusFrom + 2000000 = 2000000 ∧
      (fast.point 0).config = some pointCfg ∧ pointCfg.panel ≠ 0 ∧ (fast.point 0).context = some context0 ∧
      fast.fsm.queue.length < 8 ∧ ((pumping 400000 9400000 true).pump 0).carried + (10000000 - 9400000) = 1000000 ∧
      ((pumping 1000000 0 false).pump 0).carried = 1000000 := by decide +kernel

theorem test_pump_second :
    ((run (.pumpRunSecond 0) (pumping 400000 9400000 true)).pump 0).runTime = 1 ∧
      ((run (.pumpRunSecond 0) (pumping 399999 9400000 true)).pump 0).runTime = 0 := by decide +kernel

def authParams (preset : Option Nat) : List Byte := beBytes 4 77 ++ optBytes 4 preset ++ [0, 0, 0, 0]

/-- The account of the sample bay may open a context at its point. -/
theorem bay_may (s : State) (preset : Option Nat) (a : Account) (e : Allowance) (l : Nat) (g : Governing)
    (h : (decide ((s.point 0).state = .idle ∧ (s.point 0).config = some pointCfg ∧ s.ssd.level = .normal ∧
      (s.jev.journal.length + s.jev.reserved < 256 ∧ s.jev.nextNumber + s.jev.reserved ≤ 4294967295 ∧
        s.jev.spent = false) ∧ s.account 3 = some a ∧ a.suspended = false ∧ a.openCount < 2 ∧
      a.entryFor pointCfg.product = some e ∧
      s.product pointCfg.product = some product0 ∧ (s.tank pointCfg.tank).state = .normal) &&
      decide (a.serviceLock = false) && decide (s.mgt.online = true) &&
      decide (leastBound ((preset.map (fun v => (v, Governing.preset))).toList ++
        (e.allowance.map (fun v => (v - e.used - e.committed, Governing.allowance))).toList ++
        [((s.cls a.cls).maxFill, .classMax), ((s.tank pointCfg.tank).available, .tank)] ++ []) = (l, g)) &&
      decide (product0.minDispense ≤ l)) = true := by decide +kernel) : MayOpen s 0 preset pointCfg 3 a e l g := by
  simp only [Bool.and_eq_true, decide_eq_true_eq] at h
  obtain ⟨⟨⟨⟨⟨h1, h2, h3, h4, h6, h7, h8, h9, h10, h11⟩, h12⟩, h13⟩, h14⟩, h15⟩ := h
  exact ⟨product0, h1, h2, h3, h4, h6, h7, h8, h9, h10, by simp [h12], .inl h11,
    by simpa [State.boundsFor, h13] using h14, h15⟩

def allowance0 : Allowance := ⟨0, some 500000, 1000, 0⟩

/-- An authorisation whose limit is the product's least, and one with no preset. -/
theorem witness_AuthoriseOpensAContext :
    (Asked bay 3 0x26 0 (authParams (some 100)) ∧ Asked bay 3 0x26 0 (authParams none)) ∧
      AccountsDistinct (asking bay 3 0x26 0 (authParams none)) ∧ account0.tag = 77 ∧
      account0.hoursRequired = false ∧ (some 100).getD 0 ≤ 4000000000 ∧
      MayOpen (asking bay 3 0x26 0 (authParams (some 100))) 0 (some 100) pointCfg 3 account0 allowance0 100 .preset ∧
      MayOpen (asking bay 3 0x26 0 (authParams none)) 0 none pointCfg 3 account0 allowance0 400000 .classMax :=
  ⟨⟨asked .., asked ..⟩, bay_accounts .., rfl, rfl, by decide, bay_may _ _ _ _ _ _, bay_may _ _ _ _ _ _⟩

/-- R81: the response carries the point, the limit and what governs it; a preset of 99 is too small. -/
theorem test_authorise :
    reply .authorise (asking bay 3 0x26 0 (authParams none)) =
        [3, 0x26, 0, 0, 9, 0, 0] ++ beBytes 4 400000 ++ [3] ∧
      reply .authorise (asking bay 3 0x26 0 (authParams (some 100))) =
        [3, 0x26, 0, 0, 9, 0, 0] ++ beBytes 4 100 ++ [1] ∧
      reply .authorise (asking bay 3 0x26 0 (authParams (some 99))) = [3, 0x26, 0, 0, 9, 0, 13] := by decide +kernel

/-- The bay with this account alone. -/
def holder (a : Account) : State := bay.setMac { bay.mac with accounts := [(3, a)] }

/-- `State.checks` of point 0 and the tag 77 as tests, in a state whose only account is `a`. -/
def checkTests (s : State) (a : Account) (preset : Option Nat) : List (Bool × AuthRefusal) :=
  let tank := (s.tank 0).state
  [(decide ((s.point 0).state = .uncommissioned), .notCommissioned),
    (decide ((s.point 0).state = .disabled), .pointDisabled), (decide ((s.point 0).state ≠ .idle), .busy),
    (decide (s.ssd.level ≠ .normal), .bayShut),
    (decide ¬(s.jev.journal.length + s.jev.reserved < 256 ∧ s.jev.nextNumber + s.jev.reserved ≤ 4294967295 ∧
      s.jev.spent = false), .journalFull),
    (decide (a.tag ≠ 77), .unknownTag), (decide (a.tag = 77 ∧ a.suspended = true), .accountSuspended),
    (decide (a.tag = 77 ∧ 2 ≤ a.openCount), .accountBusy),
    (decide (a.tag = 77 ∧ a.entryFor 0 = none), .productNotPermitted),
    (decide (a.tag = 77 ∧ a.serviceLock = true ∧ (∃ m ∈ s.product 0, m.kind = .fuel) ∧
      ∃ v ∈ a.services, v.state = .overdue), .serviceOverdue),
    (decide (a.tag = 77 ∧ a.hoursRequired = true), .hoursRequired),
    (decide (tank = .lockedOut ∨ tank = .unset), .tankUnavailable),
    (decide (a.tag = 77 ∧ ∃ e ∈ a.entryFor 0, ∃ m ∈ s.product 0,
      (leastBound (s.boundsFor pointCfg preset a e)).1 < m.minDispense), .limitTooSmall)]

theorem checks_eq_tests {s : State} {a : Account} (preset : Option Nat) (h : s.mac.accounts = [(3, a)]) :
    s.checks 0 pointCfg 77 preset = (checkTests s a preset).map (fun x => (x.1 = true, x.2)) := by
  have ht : ∀ P, s.tagged 77 P ↔ a.tag = 77 ∧ P a := by
    intro P
    simp only [State.tagged, State.account, h, lookupSlot]
    constructor
    · rintro ⟨slot, b, hb, h1, h2⟩
      split at hb <;> simp_all
    · exact fun ⟨h1, h2⟩ => ⟨3, a, by simp, h1, h2⟩
  simp [State.checks, checkTests, ht, pointCfg, JournalRoom]
  cases s.jev.spent <;> simp
  omega

/-- The first check that fails is that at `i`. -/
def FailsFirst (s : State) (preset : Option Nat) (i : Nat) (code : AuthRefusal) : Prop :=
  ∃ c, (s.checks 0 pointCfg 77 preset)[i]? = some (c, code) ∧ c ∧
    ∀ j b, j < i → (s.checks 0 pointCfg 77 preset)[j]? = some b → ¬b.1

theorem failsFirst_of_test {s : State} {a : Account} {preset : Option Nat} {i : Nat} {code : AuthRefusal}
    (h : s.mac.accounts = [(3, a)]) (hi : (checkTests s a preset)[i]? = some (true, code))
    (hb : ((checkTests s a preset).take i).all (fun x => !x.1) = true) : FailsFirst s preset i code := by
  refine ⟨true = true, by simp [checks_eq_tests preset h, hi], rfl, fun j b hj hb' => ?_⟩
  rw [checks_eq_tests preset h, List.getElem?_map] at hb'
  obtain ⟨x, hx, rfl⟩ := Option.map_eq_some_iff.1 hb'
  have := List.all_eq_true.1 hb x (List.mem_iff_getElem?.2 ⟨j, by simp [hj, hx]⟩)
  simpa using this

def refusing : List (State × Account × Option Nat × Nat × AuthRefusal) :=
  let service : Service :=
    { product := 0, interval := 100, minVolume := 1, hoursAtLast := some 0, state := .overdue }
  let of := fun (a : Account) => (holder a, a)
  let here := fun (s : State) => (s, account0)
  let as := fun (x : State × Account) (v : Option Nat) (i : Nat) (code : AuthRefusal) => (x.1, x.2, v, i, code)
  [as (here (pointAs .uncommissioned)) none 0 .notCommissioned, as (here (pointAs .disabled)) none 1 .pointDisabled,
    as (here (pointAs .fast)) none 2 .busy,
    as (here { bay with ssd := { bay.ssd with level := .bayStop } }) none 3 .bayShut,
    as (here (bay.setJev { bay.jev with reserved := 256 })) none 4 .journalFull,
    as (here (bay.setJev { bay.jev with nextNumber := 4294967296 })) none 4 .journalFull,
    as (here (bay.setJev { bay.jev with spent := true, fullReported := true })) none 4 .journalFull,
    as (of { account0 with tag := 78 }) none 5 .unknownTag,
    as (of { account0 with suspended := true }) none 6 .accountSuspended,
    as (of { account0 with openCount := 2 }) none 7 .accountBusy,
    as (of { account0 with allowances := [] }) none 8 .productNotPermitted,
    as (of { account0 with serviceLock := true, services := [service] }) none 9 .serviceOverdue,
    as (of { account0 with hoursRequired := true }) none 10 .hoursRequired,
    as (here (bay.setTank 0 { tank0 with state := .lockedOut })) none 11 .tankUnavailable,
    as (here (bay.setTank 0 { tank0 with state := .unset })) none 11 .tankUnavailable,
    as (here bay) (some 99) 12 .limitTooSmall]

theorem distinct_one {s : State} {a : Account} (h : s.mac.accounts = [(3, a)]) : AccountsDistinct s := by
  unfold AccountsDistinct
  rw [h]
  simp

/-- Each check fails first somewhere. -/
theorem witness_AuthoriseOpensAContext_refusals :
    ∀ e ∈ refusing, Asked e.1 3 0x26 0 (authParams e.2.2.1) ∧ (e.1.point 0).config = some pointCfg ∧
      AccountsDistinct (asking e.1 3 0x26 0 (authParams e.2.2.1)) ∧
      FailsFirst (asking e.1 3 0x26 0 (authParams e.2.2.1)) e.2.2.1 e.2.2.2.1 e.2.2.2.2 := by
  intro e he
  have h : ∀ e ∈ refusing, (e.1.mgt.softReset.isNone && decide (e.1.spt.tx.length < 15)) = true ∧
      (e.1.point 0).config = some pointCfg ∧ e.1.mac.accounts = [(3, e.2.1)] ∧
      (checkTests e.1 e.2.1 e.2.2.1)[e.2.2.2.1]? = some (true, e.2.2.2.2) ∧
      ((checkTests e.1 e.2.1 e.2.2.1).take e.2.2.2.1).all (fun x => !x.1) = true := by decide +kernel
  obtain ⟨h1, h2, h3, h4, h5⟩ := h e he
  exact ⟨asked _ _ _ _ _ h1, h2, distinct_one h3, failsFirst_of_test h3 h4 h5⟩

/-- R77: each is answered with its code. -/
theorem test_authorise_refused : ∀ e ∈ refusing,
    (reply .authorise (asking e.1 3 0x26 0 (authParams e.2.2.1))).drop 6 = [e.2.2.2.2.code] := by decide +kernel

theorem witness_AuthoriseOpensAContext_bounds : [(499000, Governing.allowance), (400000, .classMax)] ≠ [] := by decide

/-- Each state of the point. -/
theorem witness_PointEnableAndDisable :
    (∀ x ∈ [PointState.uncommissioned, .disabled, .idle], ((pointAs x).point 0).state = x) ∧
      (∀ x ∈ [PointState.uncommissioned, .disabled, .idle], WorkReserved (asking (pointAs x) 3 0x28 0 []) ∧
        Asked (pointAs x) 3 0x28 0 [] ∧ WorkReserved (asking (pointAs x) 3 0x29 0 []) ∧
        Asked (pointAs x) 3 0x29 0 []) ∧
      (∀ x ∈ [authorised, fast, stopping], WorkReserved (asking x 3 0x29 0 []) ∧ Asked x 3 0x29 0 []) ∧
      (authorised.point 0).state = .authorised ∧ (fast.point 0).state.flowing = true ∧
      (stopping.point 0).state = .stopping := by
  refine ⟨by decide +kernel, fun x hx => ?_, fun x hx => ?_, by decide +kernel⟩
  · have h : ∀ x ∈ [PointState.uncommissioned, .disabled, .idle], workTest (asking (pointAs x) 3 0x28 0 []) = true ∧
        workTest (asking (pointAs x) 3 0x29 0 []) = true ∧
        ((pointAs x).mgt.softReset.isNone && decide ((pointAs x).spt.tx.length < 15)) = true := by decide +kernel
    have := h x hx
    exact ⟨workReserved_of_test this.1, asked _ _ _ _ _ this.2.2, workReserved_of_test this.2.1,
      asked _ _ _ _ _ this.2.2⟩
  · have h : ∀ x ∈ [authorised, fast, stopping], workTest (asking x 3 0x29 0 []) = true ∧
        (x.mgt.softReset.isNone && decide (x.spt.tx.length < 15)) = true := by decide +kernel
    exact ⟨workReserved_of_test (h x hx).1, asked _ _ _ _ _ (h x hx).2⟩

theorem test_point_disable :
    ((run .pointDisable (asking bay 3 0x29 0 [])).point 0).state = .disabled ∧
      reply .pointDisable (asking fast 3 0x29 0 []) = [3, 0x29, 0, 0, 9, 7] ∧
      ((run .pointEnable (asking (pointAs .disabled) 3 0x28 0 [])).point 0).state = .idle := by decide +kernel

/-! ### Service runs -/

def steps0 : List (Fin 8 × Nat × Bool) := [(0, 1, false), (7, 4000000000, true)]
def slotAs (x : Run) (s : State) : State := s.setSlot 2 (some x)
def loadParams (l : List (Fin 8 × Nat × Bool)) : List Byte := [9, 0, 3, BitVec.ofNat 8 l.length] ++ l.flatMap stepFields
def appendParams (l : List (Fin 8 × Nat × Bool)) : List Byte := [9, BitVec.ofNat 8 l.length] ++ l.flatMap stepFields

/-- Each request; a load of 8 steps, an append up to 8, and the last step's flag. -/
theorem witness_RunsAreLoadedAndEdited :
    let full := List.replicate 8 (0, 1, false)
    let six := List.replicate 6 (0, 1, false)
    let s := slotAs run0 bay
    let ended := slotAs { run0 with state := .done } bay
    (Asked bay 3 0x2A 2 (loadParams steps0) ∧ Asked bay 3 0x2A 2 (loadParams full) ∧
        Asked s 3 0x2B 2 (appendParams steps0) ∧ Asked s 3 0x2B 2 (appendParams six) ∧ Asked s 3 0x2C 2 [9, 2] ∧
        Asked ended 2 0x0F 2 [] ∧ Asked s 1 0x0F 2 []) ∧
      (StepsInRange steps0 ∧ StepsInRange full ∧ StepsInRange six) ∧
      (bay.slot 2 = none ∧ (bay.account 3).isSome = true ∧ ∀ j : Fin 4, bay.slot j = none) ∧
      (s.slot 2 = some run0 ∧ run0.runId = 9 ∧ run0.steps.length + six.length = 8 ∧ run0.state ≠ .done ∧
        run0.state ≠ .abandoned ∧ run0.current < 2 ∧ 2 ≤ run0.steps.length) ∧
      (ended.slot 2 = some { run0 with state := .done } ∧ ∀ p, (ended.point p).context = none) := by
  refine ⟨⟨asked .., asked .., asked .., asked .., asked .., asked .., asked ..⟩, ?_, by decide +kernel⟩
  unfold StepsInRange
  decide +kernel

theorem test_run_load_and_append :
    ((run .runLoad (asking bay 3 0x2A 2 (loadParams steps0))).slot 2).map (fun x => (x.state, x.runId, x.steps.length)) =
        some (.loaded, 9, 2) ∧
      ((run .runAppend (asking (slotAs run0 bay) 3 0x2B 2 (appendParams steps0))).slot 2).map (·.steps.length) =
        some 4 ∧
      (run .runsWrite (asking (slotAs { run0 with state := .done } bay) 2 0x0F 2 [])).slot 2 = none ∧
      (reply .runsWrite (asking (slotAs run0 bay) 1 0x0F 2 [])).take 8 = [1, 0x0F, 0, 2, 9, 0, 4, 9] := by
  decide +kernel

/-- Each request: a next step, no next step, and a retry of what is left. -/
theorem witness_RunsAreResumedAndRetried :
    let ended := { run0 with current := 2, suspendReason := some .pause }
    (Asked (slotAs run0 bay) 3 0x2D 2 [BitVec.ofNat 8 run0.runId] ∧
        Asked (slotAs ended bay) 3 0x2D 2 [BitVec.ofNat 8 ended.runId] ∧
        Asked (slotAs run0 bay) 3 0x2E 2 [BitVec.ofNat 8 run0.runId]) ∧
      (slotAs run0 bay).slot 2 = some run0 ∧ run0.state = .suspended ∧ 1 ≤ run0.runId ∧ run0.runId ≤ 255 ∧
      (slotAs ended bay).slot 2 = some ended ∧ ended.state = .suspended ∧ ended.steps.length ≤ ended.current ∧
      run0.steps[run0.current]? = some ⟨0, 3000, false, .pending, 0⟩ ∧ run0.suspendReason ≠ some .pause ∧
      1 ≤ run0.current ∧ run0.steps[run0.current - 1]? = some ⟨0, 5000, true, .short, 2000⟩ := by
  refine ⟨⟨asked .., asked .., asked ..⟩, ?_⟩
  decide +kernel

/-- R105, R106: the resumed step asks for its target and the retried one for what is left, 3,000 cL both; a retry
limited below that leaves the run ACTIVE at the same step. -/
theorem test_run_resume_and_retry :
    reply .runResume (asking (slotAs run0 bay) 3 0x2D 2 [9]) = [3, 0x2D, 0, 2, 9, 0, 0] ++ beBytes 4 3000 ++ [6] ∧
      ((run .runResume (asking (slotAs run0 bay) 3 0x2D 2 [9])).slot 2).map (fun x => (x.state, x.current)) =
        some (.active, 2) ∧
      reply .runRetry (asking (slotAs run0 bay) 3 0x2E 2 [9]) = [3, 0x2E, 0, 2, 9, 0, 0] ++ beBytes 4 3000 ++ [6] ∧
      ((run .runRetry (asking (slotAs run0 bay) 3 0x2E 2 [9])).slot 2).map (fun x => (x.state, x.current)) =
        some (.active, 1) := by decide +kernel

def running : State := slotAs { run0 with state := .active, current := 2, suspendReason := none, suspendDue := none }
  (filling .fast { context0 with source := .run, run := some (9, 2) } 0)

/-- The timer at its last moment, and a request with no step open and with one. -/
theorem witness_RunsAreAbandoned :
    ((slotAs { run0 with suspendDue := some 10000 } bay).slot 2 = some { run0 with suspendDue := some 10000 } ∧
        bay.ms = 10000 ∧ ∀ p, (bay.point p).context = none) ∧
      (Asked (slotAs run0 bay) 3 0x2F 2 [9] ∧ Asked running 3 0x2F 2 [9]) ∧
      running.slot 2 = some { run0 with state := .active, current := 2, suspendReason := none, suspendDue := none } ∧
      (running.point 0).context = some { context0 with source := .run, run := some (9, 2) } ∧
      (running.point 0).state.running = true ∧ ∀ q : Fin 8, q ≠ 0 → (running.point q).context = none :=
  ⟨by decide +kernel, ⟨asked .., asked ..⟩, by decide +kernel⟩

theorem test_run_abandon :
    ((run .runAbandon (asking running 3 0x2F 2 [9])).slot 2).map (fun x => (x.state, x.abandonReason)) =
        some (.abandoned, some .site) ∧
      (((run .runAbandon (asking running 3 0x2F 2 [9])).point 0).context.bind (·.endCause)) = some .siteCancel := by
  decide +kernel

/-! ### Role records -/

/-- A frame from one station for station 9 with a record at byte 1 of its payload. -/
def record (source : Byte) (b : List Byte) : Frame :=
  [9, source, 0x50, BitVec.ofNat 8 (b.length + 2), 0xEE] ++ b ++ [7, 0, 0]
def acting (role : Role) : ClassifierEntry :=
  { direction := .fromField, segments := [⟨0, [0xFF], [9]⟩], role := some role, roleBase := 1, disposition := .act,
    gated := false }
/-- The state with that frame heard during a loan. -/
def reading (role : Role) (source : Byte) (b : List Byte) (s : State) : State :=
  (heard (record source b) s).setFcl { Reset.fcl with table := upd Reset.fcl.table 4 (some (acting role)) }
/-- The state with that frame held as the first reply of a burst. -/
def bursting (role : Role) (source : Byte) (b : List Byte) (s : State) : State :=
  ((holding true (record source b) s).setFsm { (holding true (record source b) s).fsm with
    exchange := some (.poll { poll0 with station := source.toNat }) }).setFcl
      { Reset.fcl with table := upd Reset.fcl.table 4 (some (acting role)) }

/-- What a record carries is handed on, in both ways. -/
theorem hands (role : Role) (source : Byte) (b : List Byte) (s : State)
    (h : (handsTest (reading role source b s) (record source b) role b &&
      handsTest (bursting role source b s) (record source b) role b) = true := by decide +kernel) :
    Hands (reading role source b s) (record source b) role b ∧
      Hands (bursting role source b s) (record source b) role b := by
  simp only [Bool.and_eq_true] at h
  exact ⟨hands_of_test h.1, hands_of_test h.2⟩

theorem reading_accounts (role : Role) (source : Byte) (b : List Byte) :
    AccountsDistinct (reading role source b bay) := bay_accounts 0 0 0 []

def tagRecord (p : Byte) (tag : Nat) (hour : Option Nat) : List Byte := [p] ++ beBytes 4 tag ++ optBytes 4 hour
/-- Point 7 out of service, with the stations of its record. -/
def shelved : State := bay.setPoint 7 { Reset.point with idle := [0, 9, 9, 9, 6, 7] ++ zeros 10 }
def loaded0 : Run := { run0 with state := .loaded, current := 0, suspendReason := none, suspendDue := none }

/-- Each clause: points 8 and 255, another reader, the tag of the open context, an unknown tag, a tag that may open a
context and one with a LOADED run. -/
theorem witness_TagsAreRead :
    (∀ n ∈ [8, 255], Hands (reading .nozzleTag 6 ([BitVec.ofNat 8 n] ++ zeros 9) bay)
        (record 6 ([BitVec.ofNat 8 n] ++ zeros 9)) .nozzleTag ([BitVec.ofNat 8 n] ++ zeros 9)) ∧
      (Hands (reading .nozzleTag 5 (tagRecord 0 77 none) bay) (record 5 (tagRecord 0 77 none)) .nozzleTag
          (tagRecord 0 77 none) ∧ frameSource (record 5 (tagRecord 0 77 none)) ≠ pointCfg.reader) ∧
      (Hands (reading .nozzleTag 6 (tagRecord 0 77 none) fast) (record 6 (tagRecord 0 77 none)) .nozzleTag
          (tagRecord 0 77 none) ∧ context0.tag = 77) ∧
      (Hands (reading .nozzleTag 6 (tagRecord 0 78 none) bay) (record 6 (tagRecord 0 78 none)) .nozzleTag
          (tagRecord 0 78 none) ∧ (bay.point 0).context = none ∧ ∀ e ∈ bay.mac.accounts, e.2.tag ≠ 78) ∧
      (Hands (bursting .nozzleTag 6 (tagRecord 0 77 none) bay) (record 6 (tagRecord 0 77 none)) .nozzleTag
          (tagRecord 0 77 none) ∧ frameSource (record 6 (tagRecord 0 77 none)) = pointCfg.reader ∧
        AccountsDistinct (reading .nozzleTag 6 (tagRecord 0 77 none) bay) ∧ (∀ j, bay.slot j = none) ∧
        MayOpen (reading .nozzleTag 6 (tagRecord 0 77 none) bay) 0 none pointCfg 3 account0 allowance0 400000
          .classMax) ∧
      (Hands (reading .nozzleTag 6 (tagRecord 0 77 (some 9999999)) (slotAs loaded0 bay))
          (record 6 (tagRecord 0 77 (some 9999999))) .nozzleTag (tagRecord 0 77 (some 9999999)) ∧
        (slotAs loaded0 bay).slot 2 = some loaded0 ∧ loaded0.state = .loaded ∧ loaded0.account = 3 ∧
        (∃ z ∈ loaded0.steps, z.point = 0) ∧ ∀ i y, (slotAs loaded0 bay).slot i = some y → i = 2) := by
  refine ⟨fun n hn => ?_, ⟨(hands .nozzleTag 5 _ bay).1, by decide +kernel⟩, ⟨(hands .nozzleTag 6 _ fast).1, rfl⟩,
    ⟨(hands .nozzleTag 6 _ bay).1, by decide +kernel⟩,
    ⟨(hands .nozzleTag 6 _ bay).2, by decide +kernel, reading_accounts .., by decide +kernel,
      bay_may _ _ _ _ _ _⟩,
    (hands .nozzleTag 6 _ (slotAs loaded0 bay)).1, by decide +kernel, rfl, rfl, by decide +kernel,
    each (P := fun i _ => i = 2) (by decide +kernel)⟩
  have h : ∀ n ∈ [8, 255], handsTest (reading .nozzleTag 6 ([BitVec.ofNat 8 n] ++ zeros 9) bay)
      (record 6 ([BitVec.ofNat 8 n] ++ zeros 9)) .nozzleTag ([BitVec.ofNat 8 n] ++ zeros 9) = true := by decide +kernel
  exact hands_of_test (h n hn)

/-- A tag at an UNCOMMISSIONED point in service, and at one out of service that keeps its reader station. -/
theorem witness_TagsAreRead_uncommissioned :
    (Hands (reading .nozzleTag 6 (tagRecord 0 77 none) plain) (record 6 (tagRecord 0 77 none)) .nozzleTag
        (tagRecord 0 77 none) ∧ (plain.point 0).state = .uncommissioned ∧ (plain.point 0).context = none ∧
      (plain.point 0).config = some pointCfg ∧ pointCfg.reader = 6 ∧ (∀ j, plain.slot j = none) ∧
      AccountsDistinct (reading .nozzleTag 6 (tagRecord 0 77 none) plain) ∧
      AccountsDistinct (reading .nozzleTag 6 (tagRecord 7 77 none) shelved)) ∧
      (Hands (reading .nozzleTag 6 (tagRecord 7 77 none) shelved) (record 6 (tagRecord 7 77 none)) .nozzleTag
        (tagRecord 7 77 none) ∧ (shelved.point 7).state = .uncommissioned ∧ (shelved.point 7).config = none ∧
      num (shelved.point 7).idle 4 1 = 6) :=
  ⟨⟨(hands .nozzleTag 6 _ plain).1, by decide +kernel, by decide +kernel, by decide +kernel, by decide +kernel,
    by decide +kernel, reading_accounts .nozzleTag 6 (tagRecord 0 77 none),
    reading_accounts .nozzleTag 6 (tagRecord 7 77 none)⟩, (hands .nozzleTag 6 _ shelved).1, by decide +kernel⟩

/-- The bay with another tag's context open at point 0, with a LOADED run of the account that holds the tag 77 or not. -/
def occupied : State := filling .fast { context0 with account := 4, tag := 78 } 16400

/-- Each refusal that a tag with no run meets, but LIMIT_TOO_SMALL, which takes a class of no fills; the bay occupied. -/
def tagRefusing : List (State × Account × AuthRefusal) :=
  [(occupied, (occupied.account 3).getD account0, .busy),
    (bay.setMac { bay.mac with classes := upd bay.mac.classes 1 { class1 with maxFill := 99 } }, account0,
      .limitTooSmall)] ++
  (refusing.filter (fun e => decide (e.2.2.1 = none))).map (fun e => (e.1, e.2.1, e.2.2.2.2))

theorem witness_TagsAreRead_refusals :
    ∀ e ∈ tagRefusing,
      let s := reading .nozzleTag 6 (tagRecord 0 77 none) e.1
      Hands s (record 6 (tagRecord 0 77 none)) .nozzleTag (tagRecord 0 77 none) ∧ (s.point 0).config = some pointCfg ∧
        AccountsDistinct s ∧ (∀ c, (s.point 0).context = some c → c.tag ≠ 77) ∧ (∀ j, s.slot j = none) ∧
        FirstFailing (s.checks 0 pointCfg 77 none) e.2.2 := by
  intro e he
  have h : ∀ e ∈ tagRefusing,
      let s := reading .nozzleTag 6 (tagRecord 0 77 none) e.1
      (handsTest s (record 6 (tagRecord 0 77 none)) .nozzleTag (tagRecord 0 77 none)) = true ∧
      (s.point 0).config = some pointCfg ∧ s.mac.accounts = [(3, e.2.1)] ∧
      (s.point 0).context.all (fun c => decide (c.tag ≠ 77)) = true ∧ (∀ j, s.slot j = none) ∧
      (checkTests s e.2.1 none).find? (·.1) = some (true, e.2.2) := by decide +kernel
  obtain ⟨h1, h2, h3, h4, h5, h6⟩ := h e he
  refine ⟨hands_of_test h1, h2, distinct_one h3, holds (P := fun (c : Context) => c.tag ≠ 77) h4, h5, ?_⟩
  · rw [checks_eq_tests none h3]
    obtain ⟨-, before, after, hl, hb⟩ := List.find?_eq_some_iff_append.1 h6
    refine ⟨before.map (fun x => (x.1 = true, x.2)), after.map (fun x => (x.1 = true, x.2)), true = true,
      by rw [hl, List.map_append]; rfl, rfl, fun b hb' => ?_⟩
    obtain ⟨x, hx, rfl⟩ := List.mem_map.1 hb'
    simpa using hb x hx

/-- A LOADED run of the tag's account starts with another tag's context open at the point, and its first step, at that
point, is refused BUSY. -/
theorem witness_TagsAreRead_occupied :
    Hands (reading .nozzleTag 6 (tagRecord 0 77 none) (slotAs loaded0 occupied)) (record 6 (tagRecord 0 77 none))
        .nozzleTag (tagRecord 0 77 none) ∧
      (((slotAs loaded0 occupied).point 0).context.map (·.tag) = some 78 ∧
        (slotAs loaded0 occupied).slot 2 = some loaded0 ∧
        ((slotAs loaded0 occupied).account 3).map (·.tag) = some 77) :=
  ⟨(hands .nozzleTag 6 _ (slotAs loaded0 occupied)).1, by decide +kernel⟩

/-- R76, R77, R103: each refusal is shown; the run starts and is suspended. -/
theorem test_tag_refused :
    (∀ e ∈ tagRefusing, ((run .fieldFrameTaken (reading .nozzleTag 6 (tagRecord 0 77 none) e.1)).point 0).refusal =
      some e.2.2) ∧
      ((run .fieldFrameTaken (reading .nozzleTag 6 (tagRecord 0 77 none) (slotAs loaded0 occupied))).slot 2).map
        (fun x => (x.state, x.suspendReason)) = some (.suspended, some .refused) := by decide +kernel

/-- R15, R77: the refusal is shown at the panel of a point out of service. -/
theorem test_tag_at_idle_point :
    let t := run .fieldFrameTaken (reading .nozzleTag 6 (tagRecord 7 77 none) shelved)
    (t.point 7).refusal = some .notCommissioned ∧ t.fsm.queue.map (fun x => frameDest x.frame) = [7] := by
  decide +kernel

/-- R14, R76, R103: a tag opens a context, starts the run that names its account, and is refused when nobody's. -/
theorem test_tag_read :
    ((run .fieldFrameTaken (reading .nozzleTag 6 (tagRecord 0 77 none) bay)).point 0).context.map
        (fun c => (c.source, c.limit)) = some (.tag, 400000) ∧
      ((run .fieldFrameTaken (reading .nozzleTag 6 (tagRecord 0 77 none) (slotAs loaded0 bay))).slot 2).map
        (fun x => (x.state, x.current)) = some (.active, 1) ∧
      ((run .fieldFrameTaken (bursting .nozzleTag 6 (tagRecord 0 78 none) bay)).point 0).refusal = some .unknownTag ∧
      (run .fieldFrameTaken (bursting .nozzleTag 5 (tagRecord 0 77 none) bay)).fsm.counters.roleErrors = 1 := by
  decide +kernel

def keyRecord (code v : Nat) : List Byte := [0, BitVec.ofNat 8 code] ++ beBytes 4 v

/-- Each key with something to act on and with nothing: a START at the limit, within the slow-down volume and beyond it,
a PRESET below, at and above the limit, a RESUME with a step left, with none and with the run ACTIVE. -/
theorem witness_PanelKeysAreTaken :
    (∀ n ∈ [0, 1, 2, 3, 4, 5, 6, 255], ∀ v ∈ [0, 4294967295],
        Hands (reading .panelEntry 7 (keyRecord n v) bay) (record 7 (keyRecord n v)) .panelEntry
          ([BitVec.ofNat 8 (0 : Fin 8).val, BitVec.ofNat 8 n] ++ beBytes 4 v) ∧
        frameSource (record 7 (keyRecord n v)) = pointCfg.panel) ∧
      (∀ l ∈ [0, 5000, 5001], let s := filling .authorised { context0 with limit := l } 0
        (s.point 0).state = .authorised ∧ (s.point 0).context = some { context0 with limit := l } ∧
          (s.figures 0 { context0 with limit := l }).net = 0) ∧
      (Hands (reading .panelEntry 7 (keyRecord 1 0) authorised) (record 7 (keyRecord 1 0)) .panelEntry
          (keyRecord 1 0) ∧ (authorised.point 0).state = .authorised ∧
        (authorised.point 0).context = some context0) ∧
      (Hands (reading .panelEntry 7 (keyRecord 3 20000) fast) (record 7 (keyRecord 3 20000)) .panelEntry
          (keyRecord 3 20000) ∧ (fast.point 0).state.running = true ∧ max 20000 16425 < context0.limit) ∧
      (Hands (reading .panelEntry 7 (keyRecord 4 0) (slotAs run0 bay)) (record 7 (keyRecord 4 0)) .panelEntry
          (keyRecord 4 0) ∧ (slotAs run0 bay).slot 2 = some run0 ∧ run0.state = .suspended ∧
        (∃ z ∈ run0.steps, z.point = 0) ∧ run0.steps[run0.current]? = some ⟨0, 3000, false, .pending, 0⟩) ∧
      (Hands (reading .panelEntry 7 (keyRecord 4 0) running) (record 7 (keyRecord 4 0)) .panelEntry
          (keyRecord 4 0) ∧ (running.slot 2).map (·.state) = some .active) := by
  refine ⟨fun n hn v hv => ?_, by decide +kernel,
    ⟨(hands .panelEntry 7 _ authorised).1, by decide +kernel⟩,
    ⟨(hands .panelEntry 7 _ fast).1, by decide +kernel⟩,
    ⟨(hands .panelEntry 7 _ (slotAs run0 bay)).1, by decide +kernel, rfl, by decide +kernel⟩,
    (hands .panelEntry 7 _ running).1, by decide +kernel⟩
  have h : ∀ n ∈ [0, 1, 2, 3, 4, 5, 6, 255], ∀ v ∈ [0, 4294967295],
      handsTest (reading .panelEntry 7 (keyRecord n v) bay) (record 7 (keyRecord n v)) .panelEntry
        ([BitVec.ofNat 8 (0 : Fin 8).val, BitVec.ofNat 8 n] ++ beBytes 4 v) = true ∧
      frameSource (record 7 (keyRecord n v)) = pointCfg.panel := by decide +kernel
  exact ⟨hands_of_test (h n hn v hv).1, (h n hn v hv).2⟩

/-- R85, R86, R107: START at the stop lead stops, a PRESET is held at the net, and RESUME offers the next step. -/
theorem test_panel_keys :
    let s := fun (c : Nat) (v : Nat) (u : State) => run .fieldFrameTaken (reading .panelEntry 7 (keyRecord c v) u)
    ((s 1 0 authorised).point 0).state = .fast ∧
      ((s 1 0 (filling .authorised { context0 with limit := 5000 } 0)).point 0).state = .slow ∧
      (((s 3 0 fast).point 0).state, ((s 3 0 fast).point 0).context.map (·.limit)) = (.stopping, some 16425) ∧
      ((s 4 0 (slotAs run0 bay)).slot 2).map (fun x => (x.state, x.current)) = some (.active, 2) ∧
      ((s 4 0 running).slot 2).map (·.ignored) = some 1 := by decide +kernel

/-! ### Machine accounts -/

def timed (w : BitVec 32) : State := bay.setMgt { bay.mgt with timeValid := true, wall := w }

/-- A difference above, at and below 0, and no clock. -/
theorem witness_HourReadings_elapsed :
    (timed 3600).mgt.timeValid = true ∧ { hours0 with wallTime := some 0 }.wallTime = some 0 ∧
      0 ≤ ((timed 3600).mgt.wall - 0).toInt ∧ ((timed 0xFFFFFFFF).mgt.wall - 0).toInt < 0 ∧
      bay.mgt.timeValid = false ∧ hours0.wallTime = none := by decide +kernel

/-- R120: 3,600 s are 1.0 h, also over the wall time's wrap; a clock set back gives 0. -/
theorem test_elapsed :
    (timed 3599).elapsedHours { hours0 with wallTime := some 0 } = some 9 ∧
      (timed 3600).elapsedHours { hours0 with wallTime := some 0 } = some 10 ∧
      (timed 1800).elapsedHours { hours0 with wallTime := some 0xFFFFF8F8 } = some 10 ∧
      (timed 0).elapsedHours { hours0 with wallTime := some 360 } = some 0 := by decide +kernel

def hourParams (r : Option Nat) : List Byte := beBytes 4 77 ++ optBytes 4 none ++ optBytes 3 r
def service0 : Service :=
  { product := 1, interval := 2000, minVolume := 2000, hoursAtLast := some 8000, state := .ok }
/-- The bay with its account's hours read 0.5 h ago, hours required of it or not, and one service record. -/
def metered (required : Bool) (h : HourRecord) : State :=
  { timed 1800 with mac := { bay.mac with accounts := [(3, { account0 with
      hoursRequired := required, hours := { h with wallTime := some 0 }, services := [service0] })] } }

theorem metered_accounts (r : Option Nat) (required : Bool) (h : HourRecord) :
    AccountsDistinct (asking (metered required h) 3 0x26 0 (hourParams r)) := by
  refine ⟨by simp [asking, metered, State.setSpt], ?_⟩
  simp [asking, metered, State.setSpt]

theorem metered_elapsed : (timed 1800).elapsedHours { hours0 with wallTime := some 0 } = some 5 := by decide +kernel

/-- Each judgement of a reading at its bounds: none, the last accepted reading, one tenth below it, the greatest that
the elapsed 5 tenths and the class's tolerance allow and one above it; with hours required and not. -/
theorem witness_HourReadings :
    (∀ r ∈ [none, some 10000, some 9999, some 10001, some (10005 + class1.tolerance),
          some (10006 + class1.tolerance)], ∀ v ∈ [false, true],
      ∃ a, Asked (metered v hours0) 3 0x26 0 (hourParams r) ∧ r.getD 0 ≤ 9999999 ∧ a.tag = 77 ∧
        a.hoursRequired = v ∧ a.hours.lastAccepted = some 10000 ∧
        (timed 1800).elapsedHours a.hours = some 5 ∧
        MayOpen (asking (metered v hours0) 3 0x26 0 (hourParams r)) 0 none pointCfg 3 a allowance0 400000 .classMax) ∧
      (metered false hours0).jev.queue.length ≤ 24 ∧ (metered false hours0).jev.masks[1] = false := by
  refine ⟨fun r hr v hv => ⟨{ account0 with
    hoursRequired := v, hours := { hours0 with wallTime := some 0 }, services := [service0] }, asked _ _ _ _ _ ?_, ?_,
    rfl, rfl, rfl, metered_elapsed, bay_may _ _ _ _ _ _ ?_⟩, by decide +kernel⟩
  · revert v; decide +kernel
  · revert r; decide +kernel
  · revert v r; decide +kernel

/-- R120, R121, R125: a reading beyond what elapsed is a JUMP, one within it is accepted and makes the service DUE. -/
theorem test_hour_readings :
    let s := fun r => run .authorise (asking (metered false hours0) 3 0x26 0 (hourParams (some r)))
    ((s (10005 + class1.tolerance)).account 3).map (·.hours.lastAccepted) = some (some (10005 + class1.tolerance)) ∧
      ((s 10001).account 3).map (fun a => a.services.map (·.state)) = some [.due] ∧
      ((s (10006 + class1.tolerance)).account 3).map (fun a => (a.hours.lastAccepted, a.hours.rejected)) =
        some (some 10000, 1) ∧
      reply .authorise (asking (metered true hours0) 3 0x26 0 (hourParams (some 9999))) =
        [3, 0x26, 0, 0, 9, 0, 11] := by decide +kernel

def owning : State := slotAs { run0 with account := 3 } bay

/-- Each request: a tag that is held and one that is not, an account free, open and named by a run. -/
theorem witness_AccountRequests :
    (Asked bay 3 0x23 0 [] ∧ Asked bay 3 0x3B 0 ([1] ++ beBytes 4 77) ∧ Asked bay 3 0x3B 0 ([2] ++ beBytes 4 78) ∧
        Asked bay 3 0x3C 3 [] ∧ Asked fast 3 0x3C 3 [] ∧ Asked owning 3 0x3C 3 []) ∧
      AccountsDistinct (asking bay 3 0x3B 0 ([1] ++ beBytes 4 77)) ∧ bay.account 3 = some account0 ∧
      account0.tag = 77 ∧ (∀ e ∈ bay.mac.accounts, e.2.tag ≠ 78) ∧ account0.openCount = 0 ∧
      (∀ k : Fin 4, bay.slot k = none) ∧ (fast.account 3).map (·.openCount) = some 1 ∧
      (owning.slot 2).map (·.account) = some 3 :=
  ⟨⟨asked .., asked .., asked .., asked .., asked .., asked ..⟩, bay_accounts .., by decide +kernel, rfl,
    by decide +kernel, rfl, by decide +kernel⟩

theorem test_account_requests :
    ((run .shiftClose (asking bay 3 0x23 0 [])).account 3).map (·.allowances) = some [⟨0, some 500000, 0, 0⟩] ∧
      reply .accountFind (asking bay 3 0x3B 0 ([2] ++ beBytes 4 78)) = [3, 0x3B, 0, 0, 9, 4] ∧
      (reply .accountFind (asking bay 3 0x3B 0 ([1] ++ beBytes 4 77))).take 12 =
        [3, 0x3B, 0, 0, 9, 0, 0, 3, 0, 0, 0, 77] ∧
      (run .accountRemove (asking bay 3 0x3C 3 [])).account 3 = none ∧
      reply .accountRemove (asking fast 3 0x3C 3 []) = [3, 0x3C, 0, 3, 9, 7] := by decide +kernel

/-- Part 1 of an account with one product, and part 2 with hours and no service. -/
def head1 (tag : Nat) : List Byte := beBytes 4 tag ++ [1, 1, 0, 0, 1] ++ ([0] ++ optBytes 4 (some 9000) ++ beBytes 4 50)
def tail1 : List Byte := optBytes 3 (some 12345) ++ [0, 0, 0, 0, 0] ++ [0, 0, 0, 0] ++ beBytes 4 0 ++ [0, 0, 0] ++ [0]
def assembled (slot tag : Nat) : State := bay.setMgt { bay.mgt with
  assembly := some { object := .accounts, index := slot, parts := 1, bytes := head1 tag } }

/-- A first part; a second part for an empty slot, and for the account's own. -/
theorem witness_AccountsAreWrittenInParts :
    (Asked bay 2 0x0A 1023 (1 :: head1 78) ∧ Asked (assembled 1023 78) 2 0x0A 1023 (2 :: tail1) ∧
        Asked (assembled 3 77) 2 0x0A 3 (2 :: tail1)) ∧
      (head1 78).length = 9 + 10 * num (head1 78) 8 1 ∧ tail1.length = 21 + 12 * num tail1 20 1 ∧
      (parseAccount (head1 78 ++ tail1)).isSome = true ∧ (parseAccount (head1 77 ++ tail1)).map (·.tag) = some 77 ∧
      (assembled 1023 78).account 1023 = none ∧ (∀ e ∈ bay.mac.accounts, e.1 ≠ 1023 → e.2.tag ≠ 78) ∧
      (assembled 3 77).account 3 = some account0 ∧ account0.tag = 77 ∧
      (∀ e ∈ bay.mac.accounts, e.1 ≠ 3 → e.2.tag ≠ 77) ∧ ∀ p, (bay.point p).context = none :=
  ⟨⟨asked .., asked .., asked ..⟩, by decide +kernel, by decide +kernel, by decide +kernel, by decide +kernel,
    by decide +kernel, by decide +kernel, by decide +kernel, rfl, by decide +kernel⟩

theorem test_account_write :
    ((run .accountsWrite (asking (assembled 1023 78) 2 0x0A 1023 (2 :: tail1))).account 1023).map
        (fun a => (a.tag, a.allowances, a.hours.lastAccepted)) = some (78, [⟨0, some 9000, 50, 0⟩], some 12345) ∧
      reply .accountsWrite (asking bay 2 0x0A 5 (2 :: tail1)) = [2, 0x0A, 0, 5, 9, 8] := by decide +kernel

/-- The STOPPING point's account with an hour record, its class of a band and a span, and a service of the product. -/
def resting (h : HourRecord) : State := { stopping with
  mac := {
    classes := upd Reset.mac.classes 1 { class1 with minSpan := 100, bandMin := 20, bandMax := 30 }
    accounts := [(3, { account0 with
      hours := h, openCount := 1, allowances := [⟨0, some 500000, 1000, 300000⟩],
      services := [{ service0 with product := 0 }] })] } }
def anchored (anchor : Option Nat) (fuel : Nat) : HourRecord :=
  { hours0 with anchor := anchor, fuel := fuel, pending := some 10000 }

/-- Each burn step: no pending reading, no anchor, a span one tenth short, and samples at and beside the band's ends:
16,425 cL with the fuel before, over a span of 10.0 h, are 20 to 31 cL a tenth. -/
theorem witness_AccountCompletion :
    (∀ h ∈ [hours0, anchored none 0, anchored (some 9901) 0, anchored (some 9000) 3575, anchored (some 9000) 3074,
        anchored (some 9000) 14075, anchored (some 9000) 14074],
      let s := resting h
      (s.point 0).state = .stopping ∧ (s.point 0).config = some pointCfg ∧
        (s.point 0).context = some { context0 with endCause := some .driverStop, stoppingAt := 5000000 } ∧
        (s.account 3).map (·.hours) = some h ∧ s.product pointCfg.product = some product0 ∧
        (s.cls 1).minSpan = 100 ∧ (s.account 3).map (fun a => a.services.map (·.interval)) = some [2000] ∧
        (s.account 3).map (·.openCount) = some 1) ∧
      (resting hours0).jev.queue.length ≤ 16 ∧ (resting hours0).jev.masks[1] = false := by decide +kernel

/-- The account of a run's step is its run's, and nothing may follow it. -/
theorem witness_AccountCompletion_runs :
    (∀ id i j x, (stepContext 2 .limitReached).run = some (id, i) →
        (settling (stepRun .active 2 false) .limitReached).slot j = some x → x.runId = id →
        x.account = (stepContext 2 .limitReached).account) ∧
      NoStepFollows (settling (stepRun .active 2 false) .limitReached) (stepContext 2 .limitReached) ∧
      (settling (stepRun .active 2 false) .limitReached).account 3 ≠ none :=
  ⟨fun _ _ j x _ hx _ => each (P := fun _ (x : Run) => x.account = 3) (by decide +kernel) j x hx,
    noStepFollows_of_test (by decide +kernel), by decide +kernel⟩

/-- R122, R126: samples of 30.500 and 30.499 cL a tenth against a band that ends at 30, and the service done. -/
theorem test_account_completion :
    let s := fun fuel => run (.settleEnd 0) (resting (anchored (some 9000) fuel))
    ((s 14075).account 3).map (fun a => a.hours.burnRate) = some none ∧
      ((s 14074).account 3).map (fun a => (a.hours.burnRate, a.hours.anchor, a.hours.fuel)) =
        some (some 30, some 10000, 0) ∧
      ((s 0).account 3).map (fun a => a.services.map (fun v => (v.hoursAtLast, v.state))) =
        some [(some 10000, .ok)] := by decide +kernel

/-! ### Tanks and stock -/

/-- Both requests, the first at the ends of its range. -/
theorem witness_StockRequests :
    (Asked bay 3 0x24 0 (beBytesInt 5 (-4294967296)) ∧ Asked bay 3 0x24 0 (beBytesInt 5 2400000) ∧
        Asked bay 3 0x25 0 []) ∧
      bay.mgt.commission = .commissioned ∧ (bay.tank 0).config = some tankCfg ∧ (2400000 : Int) ≤ tankCfg.capacity ∧
      tankCfg.capacity ≤ 4000000000 ∧ (bay.tank 0).gauge = .valid ∧ (bay.tank 0).book = some 1724727 ∧
      (bay.tank 0).gaugedNet = some 1724727 :=
  ⟨⟨asked .., asked .., asked ..⟩, by decide +kernel⟩

theorem test_stock_set :
    reply .stockSet (asking bay 3 0x24 0 (beBytesInt 5 9999)) = [3, 0x24, 0, 0, 9, 0, 1] ++ beBytesInt 5 1724727 ∧
      ((run .stockSet (asking bay 3 0x24 0 (beBytesInt 5 9999))).tank 0).state = .lockedOut ∧
      ((run .stockSet (asking bay 3 0x24 0 (beBytesInt 5 20000))).tank 0).state = .low ∧
      reply .reconcile (asking bay 3 0x25 0 []) = [3, 0x25, 0, 0, 9, 0, 1] ++ List.replicate 15 0 := by decide +kernel

def sampleRecord (status : Byte) (level : Nat) (temp : Int) (water : Option Nat) : List Byte :=
  [BitVec.ofNat 8 (0 : Fin 8).val, status] ++ beBytes 4 level ++ beBytesInt 2 temp ++ optBytes 4 water
def emptied (book : Option Int) (s : State) : State :=
  s.setTank 0 { s.tank 0 with book := book, baseline := book.map (fun _ => 0), state := if book = none then .unset else .normal }

/-- OK and FAULT samples of the tank's gauge: in either commission state, with the temperature it has and another, with
water and without, with a book and without, below the high-high level and at it, and with a context that draws from the
tank. -/
theorem witness_SamplesAreTaken :
    (∀ b ∈ [sampleRecord 0 1500 324 none, sampleRecord 0 1900 (-501) (some 10), sampleRecord 1 0 0 none],
      ∀ s ∈ [bay, plain, fast, emptied none bay],
        Hands (reading .gaugeSample 5 b s) (record 5 b) .gaugeSample b ∧ WorkReserved (reading .gaugeSample 5 b s) ∧
        (reading .gaugeSample 5 b s).entry 0 = some entry0 ∧ ((reading .gaugeSample 5 b s).tank 0).config = some tankCfg ∧
        frameKind (record 5 b) ≠ 0x12) ∧
      (entry0.station = frameSource (record 5 (sampleRecord 0 1500 324 none)) ∧ tankCfg.gauge = entry0.station ∧
        bay.product tankCfg.product = some product0 ∧ (bay.tank 0).strap = some strap0 ∧
        wellFormedStrap (some strap0) = true ∧ (plain.mgt.commission = .uncommissioned) ∧
        (emptied none bay).mgt.commission = .commissioned) ∧
      ∀ s ∈ [sumpAs false false, sumpAs true true], ∀ l ∈ [299, 300, 599, 600],
        Hands (reading .sumpLevel 5 ([BitVec.ofNat 8 (1 : Fin 4).val] ++ beBytes 4 l) s)
          (record 5 ([BitVec.ofNat 8 (1 : Fin 4).val] ++ beBytes 4 l)) .sumpLevel
          ([BitVec.ofNat 8 (1 : Fin 4).val] ++ beBytes 4 l) ∧ (s.sump 1).config.station = 5 := by
  refine ⟨fun b hb s hs => ?_, by decide +kernel, fun s hs l hl => ?_⟩
  · have h : ∀ b ∈ [sampleRecord 0 1500 324 none, sampleRecord 0 1900 (-501) (some 10), sampleRecord 1 0 0 none],
        ∀ s ∈ [bay, plain, fast, emptied none bay],
          (handsTest (reading .gaugeSample 5 b s) (record 5 b) .gaugeSample b && workTest (reading .gaugeSample 5 b s)) =
            true ∧ (reading .gaugeSample 5 b s).entry 0 = some entry0 ∧
          ((reading .gaugeSample 5 b s).tank 0).config = some tankCfg ∧ frameKind (record 5 b) ≠ 0x12 := by
      decide +kernel
    obtain ⟨h, i⟩ := h b hb s hs
    simp only [Bool.and_eq_true] at h
    exact ⟨hands_of_test h.1, workReserved_of_test h.2, i⟩
  · have h : ∀ s ∈ [sumpAs false false, sumpAs true true], ∀ l ∈ [299, 300, 599, 600],
        handsTest (reading .sumpLevel 5 ([BitVec.ofNat 8 (1 : Fin 4).val] ++ beBytes 4 l) s)
          (record 5 ([BitVec.ofNat 8 (1 : Fin 4).val] ++ beBytes 4 l)) .sumpLevel
          ([BitVec.ofNat 8 (1 : Fin 4).val] ++ beBytes 4 l) = true ∧ (s.sump 1).config.station = 5 := by
      decide +kernel
    exact ⟨hands_of_test (h s hs l hl).1, (h s hs l hl).2⟩

/-- The level agrees with the causes in those that are COMMISSIONED. -/
theorem witness_SamplesAreTaken_level :
    LevelIsHighest bay ∧ LevelIsHighest fast ∧ LevelIsHighest (emptied none bay) :=
  ⟨(levelIsHighest_iff _).2 (by decide +kernel), (levelIsHighest_iff _).2 (by decide +kernel),
    (levelIsHighest_iff _).2 (by decide +kernel)⟩

/-- R69, R133, R138, R151: 15.00 m of product less 0.10 m of water; the loss of a quiet tank; a sump's conditions. -/
theorem test_samples :
    let s := fun b u => run .fieldFrameTaken (reading .gaugeSample 5 b u)
    ((s (sampleRecord 0 1500 324 (some 10)) bay).tank 0).observed = some 1740000 ∧
      ((s (sampleRecord 0 1500 324 none) (emptied none bay)).tank 0).book = some 1724727 ∧
      (s (sampleRecord 0 1500 324 none) (emptied (some 1729727) bay)).ssd.level = .bayStop ∧
      (s (sampleRecord 0 1500 324 none) (emptied (some 1729726) bay)).ssd.level = .normal ∧
      (run .fieldFrameTaken (reading .sumpLevel 5 ([1] ++ beBytes 4 600) (sumpAs false false))).ssd.level =
        .isolate := by decide +kernel

/-- A tank left without an applied temperature by its undefined product, in each source (R59). -/
def unnamed (source : TempSource) : State :=
  plain.setTank 0 { plain.tank 0 with applied := none, source := source, lastTemp := some 900 }

/-- Every table, at the ends of its ranges, and a LOCKED write of each. -/
theorem witness_StructuralTablesAreWritten :
    let product := { product0 with beta := 2000, defaultTemp := -500, minDispense := 100000, slowDown := 1000000 }
    let tank := { tankCfg with capacity := 1, gauge := 62, highHigh := 1000000, safeFill := 4000000000 }
    let points := List.replicate 12 ⟨1000000, 4000000000⟩
    let point := { pointCfg with reader := 62, panel := 0, maxFlow := 600000000, stopLead := 2000, tolerance := 1000000 }
    let channel := { channelCfg with k := 4000000, glitch := 255, creepLimit := 1000000 }
    (Asked plain 2 0x01 0 (productBytes product) ∧ Asked plain 2 0x02 0 (tankConfigBytes (some tank)) ∧
        Asked plain 2 0x03 0 ([1, BitVec.ofNat 8 points.length] ++ points.flatMap strapPointBytes) ∧
        Asked plain 2 0x04 0 (pointConfigBytes point) ∧ Asked plain 2 0x05 3 (flagByte true) ∧
        Asked plain 2 0x06 7 ([channel.mode.code] ++ flagByte channel.invert ++ beBytes 1 channel.glitch ++
          beBytes 3 channel.k ++ beBytes 3 channel.creepLimit)) ∧
      (plain.mgt.commission = .uncommissioned ∧ bay.mgt.commission = .commissioned) ∧
      (Asked bay 2 0x01 9 (zeros 12) ∧ Asked bay 2 0x02 0 (zeros 26) ∧ Asked bay 2 0x04 0 (zeros 16) ∧
        Asked bay 2 0x05 0 (zeros 1) ∧ Asked bay 2 0x06 0 (zeros 9)) ∧
      (zeros 12).length = 12 ∧ (zeros 26).length = 26 ∧ (zeros 16).length = 16 ∧ (zeros 1).length = 1 ∧
      (zeros 9).length = 9 :=
  ⟨⟨asked .., asked .., asked .., asked .., asked .., asked ..⟩, ⟨rfl, rfl⟩,
    ⟨asked .., asked .., asked .., asked .., asked ..⟩, by decide +kernel⟩

/-- A strapping table of `n` points, and the state that has put its first parts together. -/
def points (n : Nat) : List StrapPoint := (List.range n).map (fun i => ⟨i * 1000, i * 2000⟩)
def gathered (n parts : Nat) : State := plain.setMgt { plain.mgt with assembly := some {
  object := .strapping, index := 3, parts := parts,
  bytes := BitVec.ofNat 8 n :: ((points n).take (12 * parts)).flatMap strapPointBytes } }
/-- The same while COMMISSIONED. -/
def lockedIn (n parts : Nat) : State :=
  (gathered n parts).setMgt { (gathered n parts).mgt with commission := .commissioned }
def strapPart (n part : Nat) : List Byte :=
  BitVec.ofNat 8 part :: (((points n).drop (12 * (part - 1))).take 12).flatMap strapPointBytes

/-- The cleared forms, a table of 2 and of 13 to 32 points in its parts, a LOCKED first and last part of a strapping
table, a part between them, and a part that continues no assembly, one for another index and one out of order. -/
theorem witness_StructuralTablesAreWritten_parts :
    (Asked plain 2 0x01 0 (0 :: zeros 11) ∧ Asked plain 2 0x02 0 (0 :: zeros 25) ∧
        Asked plain 2 0x04 0 (0 :: zeros 15)) ∧
      (∀ n ∈ [2, 12, 13, 24, 25, 32], Asked plain 2 0x03 3 ([1, BitVec.ofNat 8 (points n).length] ++
        ((points n).take 12).flatMap strapPointBytes)) ∧
      (∀ n ∈ [13, 24, 25, 32], Asked (gathered n 1) 2 0x03 3 (strapPart n 2) ∧ 12 < (points n).length) ∧
      (∀ n ∈ [25, 32], Asked (gathered n 2) 2 0x03 3 (strapPart n 3) ∧ 24 < (points n).length) ∧
      (∀ n ∈ [2, 12, 13, 24, 25, 32], (points n).length = n ∧
        ∀ x ∈ points n, x.level ≤ 1000000 ∧ x.volume ≤ 4000000000) ∧
      (Asked (lockedIn 13 1) 2 0x03 3 (1 :: 2 :: zeros 16) ∧
        (2 :: zeros 16 : List Byte).length = 1 + 8 * min 12 (num (2 :: zeros 16) 0 1)) ∧
      (Asked (lockedIn 13 1) 2 0x03 3 (strapPart 13 2) ∧ (strapPart 13 2).length = 9 ∧
        Asked (lockedIn 25 2) 2 0x03 3 (strapPart 25 3) ∧ (strapPart 25 3).length = 9 ∧
        Asked (lockedIn 25 1) 2 0x03 3 (strapPart 25 2) ∧ (strapPart 25 2).length = 97) ∧
      (Asked bay 2 0x03 3 [2] ∧ bay.mgt.assembly = none ∧ Asked (lockedIn 25 1) 2 0x03 4 [2] ∧
        Asked (gathered 25 1) 2 0x03 3 [3]) := by
  have h : ∀ n ∈ [2, 12, 13, 24, 25, 32], ∀ k ∈ [1, 2],
      ((gathered n k).mgt.softReset.isNone && decide ((gathered n k).spt.tx.length < 15)) = true := by decide +kernel
  refine ⟨⟨asked .., asked .., asked ..⟩, fun n _ => asked .., fun n hn => ⟨asked _ _ _ _ _ (h n ?_ 1 (by simp)), ?_⟩,
    fun n hn => ⟨asked _ _ _ _ _ (h n ?_ 2 (by simp)), ?_⟩, by decide +kernel, ⟨asked .., by decide +kernel⟩,
    ⟨asked .., by decide +kernel, asked .., by decide +kernel, asked .., by decide +kernel⟩, asked .., rfl, asked ..,
    asked ..⟩
  all_goals revert n; decide +kernel

/-- A table of 25 points comes in three parts, and a part that is LOCKED drops what was put together. -/
theorem test_strapping_parts :
    (run .strappingWrite (asking plain 2 0x03 3 ([1, 25] ++ ((points 25).take 12).flatMap strapPointBytes))).mgt.assembly =
        (gathered 25 1).mgt.assembly ∧
      (run .strappingWrite (asking (gathered 25 1) 2 0x03 3 (strapPart 25 2))).mgt.assembly =
        (gathered 25 2).mgt.assembly ∧
      ((run .strappingWrite (asking (gathered 25 2) 2 0x03 3 (strapPart 25 3))).tank 3).strap = some (points 25) := by
  decide +kernel

/-- R184: while COMMISSIONED a part between is kept and the last is LOCKED and drops the rest; a part out of order is
STATE. -/
theorem test_strapping_parts_locked :
    let told := fun (s : State) => (reply .strappingWrite s, (run .strappingWrite s).mgt.assembly)
    told (asking (lockedIn 25 1) 2 0x03 3 (strapPart 25 2)) = ([2, 3, 0, 3, 9, 0], (gathered 25 2).mgt.assembly) ∧
      told (asking (lockedIn 25 2) 2 0x03 3 (strapPart 25 3)) = ([2, 3, 0, 3, 9, 3], none) ∧
      told (asking (lockedIn 25 1) 2 0x03 4 (strapPart 25 2)) = ([2, 3, 0, 4, 9, 8], none) := by decide +kernel

/-- R56, R72: a record with its first flag clear is read as it was written. -/
theorem test_cleared_records :
    (framePayload ((run .productWrite (asking (run .productWrite (asking plain 2 0x01 0 (0 :: List.replicate 11 9)))
        1 0x01 0 [])).spt.tx.getLastD [])).drop 6 = 0 :: List.replicate 11 9 ∧
      ((run .tableWrite (asking plain 2 0x04 0 (0 :: List.replicate 15 9))).point 0).panel = 9 := by decide +kernel

/-- R59: a defined product gives a tank in SAMPLE its last sample's temperature once more, held in range, and one in
DEFAULT the product's; an undefined one takes it away. -/
theorem test_applied_temperature :
    let s := fun (u : State) (x : Option Product) =>
      ((run .productWrite (asking u 2 0x01 0 (match x with | none => 0 :: zeros 11 | some y => productBytes y))).tank 0)
    (s (unnamed .sample) (some product0)).applied = some 800 ∧ (s (unnamed .default) (some product0)).applied = some 150 ∧
      (s plain none).applied = none ∧ (s plain none).source = .sample ∧
      (s plain (some { product0 with defaultTemp := 0 })).applied = some 324 := by decide +kernel

theorem test_structural_writes :
    reply .productWrite lockedWrite = [2, 1, 0, 0, 9, 3] ∧
      reply .productWrite (asking plain 2 0x01 0 (productBytes { product0 with beta := 2001 })) =
        [2, 1, 0, 0, 9, 2] ∧
      (run .tankWrite (asking plain 2 0x02 3 (tankConfigBytes (some tankCfg)))).tank 3 =
        { Reset.tank with config := some tankCfg, applied := some 150 } ∧
      ((run .strappingWrite (asking plain 2 0x03 3 ([1, 3] ++ strap1.flatMap strapPointBytes))).tank 3).strap =
        some strap1 ∧
      ((run .tableWrite (asking plain 2 0x04 5 (pointConfigBytes pointCfg))).point 5).config = some pointCfg ∧
      ((run .tableWrite (asking plain 2 0x05 3 [1])).pump 3).fitted = true ∧
      ((run .tableWrite (asking plain 2 0x06 7 [3, 1, 9, 0, 3, 0xE8, 0, 0, 0])).channel 7).config =
        { mode := .quad, invert := true, glitch := 9, k := 1000, creepLimit := 0 } := by decide +kernel

def class2 : ClassRecord := { Reset.cls with maxFill := 4000000000, tolerance := 10000, minSpan := 1 }
def rule2 : ClassifierEntry :=
  { direction := .fromField, segments := [⟨127, [0xFF, 0, 0xF0, 1], [7, 0, 0x50, 1]⟩], role := some .gaugeSample,
    roleBase := 32, disposition := .actPass, gated := true }
def entry2 : PollEntry :=
  { entry0 with station := 62, interval := 60000, staleness := 1, recallAge := 0, formats := 1 }
def spillAs (raw : Bool) : State := bay.setSpill 7 (Reset.spill raw)
def spillHeld (present : Bool) : State :=
  bay.setSpill 7 { Reset.spill true with enabled := true, debounce := 2000, present := present }
def sumpCfg2 : SumpConfig := { station := 62, high := 1000000, highHigh := 1000000 }

/-- Every table, at ends of its ranges. -/
theorem witness_OtherTablesAreWritten :
    (Asked bay 2 0x09 15 (classBytes class2) ∧ Asked bay 2 0x07 31 (classifierBytes rule2) ∧
        Asked bay 2 0x08 31 (beBytes 1 entry2.station ++ [entry2.formats] ++ beBytes 2 entry2.interval ++
          beBytes 2 entry2.staleness ++ beBytes 2 entry2.recallAge ++ flagByte entry2.critical) ∧
        Asked bay 2 0x0B 15 (beBytes 2 65535 ++ beBytes 4 4294967295 ++ [byte 7, byte 5] ++ beBytes 4 4000000000) ∧
        Asked (spillAs false) 2 0x0C 7 ([1, 1] ++ beBytes 2 2000 ++ [Level.isolate.code]) ∧
        Asked (spillAs true) 2 0x0C 7 ([1, 1] ++ beBytes 2 2000 ++ [Level.isolate.code]) ∧
        Asked plain 2 0x0D 3 (beBytes 1 sumpCfg2.station ++ beBytes 3 sumpCfg2.high ++ beBytes 3 sumpCfg2.highHigh) ∧
        Asked bay 2 0x0E 6 (beBytes 2 600) ∧ Asked bay 2 0x0E 9 [1]) ∧
      (∀ x ∈ rule2.segments, x.offset ≤ 127 ∧ 1 ≤ x.mask.length ∧ x.mask.length ≤ 4 ∧
        x.value.length = x.mask.length ∧
        ∀ i, i < x.mask.length → x.value.getD i 0 &&& ~~~(x.mask.getD i 0) = 0) ∧
      (bay.entry 31 = none ∧ bay.fsm.exchange = none ∧ bay.fsm.lrq = false ∧ bay.tks.lockouts = []) ∧
      (∀ j y, bay.entry j = some y → y.station ≠ entry2.station) ∧
      (∀ j x, bay.order j = some x → x.state ≠ .active ∧ x.reference ≠ 65535) ∧
      ((spillAs false).spill 7).raw = false ∧ ((spillAs true).spill 7).raw ≠ false ∧
      ((spillAs true).spill 7).present = false ∧ plain.sump 3 = Reset.sump :=
  ⟨⟨asked .., asked .., asked .., asked .., asked .., asked .., asked .., asked .., asked ..⟩, by decide +kernel,
    by decide +kernel, each (P := fun _ (y : PollEntry) => y.station ≠ entry2.station) (by decide +kernel),
    each (P := fun _ (x : Order) => x.state ≠ .active ∧ x.reference ≠ 65535) (by decide +kernel),
    by decide +kernel⟩

/-- The bay UNCOMMISSIONED or not, with a sump that has a level and conditions. -/
def sumpHeld (s : State) : State := s.setSump 1 { sump0 with lastLevel := some 599, high := true }

/-- The bay, its gauge's data reported fresh or not. -/
def agedEntry (fresh : Bool) : State := bay.setFsm { bay.fsm with
  entries := upd bay.fsm.entries 0 (some { entry0 with reportedFresh := fresh }) }

/-- R25: the data of an address that an entry no longer holds is stale at once, but a station reported stale already is
not reported again, so the gauge that a write of its tank kept VALID stays so. -/
theorem witness_OtherTablesAreWritten_stale :
    ∀ fresh ∈ [false, true], ∀ b ∈ [[62, 1, 0, 100, 0, 10, 0, 0, 0], (0 : Byte) :: zeros 8],
      let s := asking (agedEntry fresh) 2 0x08 0 b
      (s.entry 0).map (·.reportedFresh) = some fresh ∧ (s.tank 0).gauge = .valid ∧
        ((run .pollListWrite s).tank 0).gauge = if fresh then .stale else .valid := by decide +kernel

/-- A classifier entry cleared; a poll entry rewritten for its address and for another, and cleared; a spill input whose
condition is present or is given at once; a sump of another, of the same and of no station; each bay parameter at the
ends of its range, and indexes of none. -/
theorem witness_OtherTablesAreWritten_rewrites :
    (Asked bay 2 0x07 4 (0 :: zeros 6) ∧ classifierLength (0 :: zeros 6) = 7 ∧
        Asked bay 2 0x07 4 [0, 9, 1, 200, 1, 7, 8, 9, 99, 9, 9] ∧
        classifierLength [0, 9, 1, 200, 1, 7, 8, 9, 99, 9, 9] = 11) ∧
      (Asked bay 2 0x08 1 [0, 9, 9, 9, 9, 9, 9, 9, 1] ∧ Asked bay 1 0x08 1 [] ∧ bay.entry 1 = none) ∧
      (Asked bay 2 0x08 0 [5, 1, 0, 100, 0, 1, 0, 0, 0] ∧ Asked bay 2 0x08 0 [62, 1, 0, 100, 0, 10, 0, 0, 0] ∧
        Asked bay 2 0x08 0 (0 :: zeros 8) ∧ bay.entry 0 = some entry0 ∧
        ∀ j y, j ≠ 0 → bay.entry j = some y → y.station ≠ 62) ∧
      (∀ x ∈ [false, true], Asked (spillHeld x) 2 0x0C 7 [1, 1, 0, 0, 1] ∧ Asked (spillHeld x) 2 0x0C 7 [0, 1, 0, 50, 1] ∧
        ((spillHeld x).spill 7).present = x ∧ ((spillHeld x).spill 7).raw ≠ false) ∧
      (∀ s ∈ [sumpHeld bay, sumpHeld plain], ∀ n ∈ [0, 5, 62], Asked s 2 0x0D 1 ([BitVec.ofNat 8 n] ++ beBytes 3 300 ++
        beBytes 3 600) ∧ (s.sump 1).config.station = 5 ∧ (s.sump 1).lastLevel = some 599) ∧
      (∀ x ∈ [(1, [1]), (1, [2]), (2, [1]), (2, [2]), (3, [0]), (3, [1]), (4, beBytes 2 0), (4, beBytes 2 3600),
          (5, beBytes 1 1), (5, beBytes 1 60), (6, beBytes 2 10), (6, beBytes 2 600), (7, beBytes 2 10),
          (7, beBytes 2 600), (8, beBytes 2 0), (8, beBytes 2 5), (8, beBytes 2 600), (0, []), (9, []), (65535, [])],
        Asked bay 2 0x0E x.1 x.2) ∧ bay.fsm.lrq = false := by
  refine ⟨⟨asked .., by decide +kernel, asked .., by decide +kernel⟩, ⟨asked .., asked .., by decide +kernel⟩,
    ⟨asked .., asked .., asked .., by decide +kernel, fun j y h => ?_⟩,
    fun x _ => ⟨asked _ _ _ _ _ ?_, asked _ _ _ _ _ ?_, ?_⟩, fun s hs n _ => ⟨asked _ _ _ _ _ ?_, ?_⟩,
    fun x hx => asked _ _ _ _ _ (by decide +kernel) ?_, rfl⟩
  · revert j y; exact fun j y _ => holds (P := fun (y : PollEntry) => y.station ≠ 62) (by revert j; decide +kernel) y
  · revert x; decide +kernel
  · revert x; decide +kernel
  · revert x; decide +kernel
  · revert s; decide +kernel
  · revert s; decide +kernel
  · revert x; decide +kernel

/-- R12, R18: an UNUSED entry keeps the critical flag it was written with, and an invalid one its bytes. -/
theorem test_unused_entries :
    reply .pollListWrite (asking (run .pollListWrite (asking bay 2 0x08 0 [0, 0, 9, 9, 9, 9, 9, 9, 1])) 1 0x08 0 []) =
        [1, 8, 0, 0, 9, 0] ++ [0, 0, 9, 9, 9, 9, 9, 9, 1] ++ unusedLiveBytes ∧
      (run .tableWrite (asking bay 2 0x07 4 [0, 9, 1, 200, 1, 7, 8, 9, 99, 9, 9])).fcl.invalid[4] =
        [0, 9, 1, 200, 1, 7, 8, 9, 99, 9, 9] := by decide +kernel

/-- R18, R148, R150: the data of an address no longer held is stale; a spill input and a sump are judged afresh. -/
theorem test_rewrites :
    ((run .pollListWrite (asking bay 2 0x08 0 [62, 1, 0, 100, 0, 10, 0, 0, 0])).tank 0).gauge = .stale ∧
      ((run .pollListWrite (asking bay 2 0x08 0 [5, 1, 0, 100, 0, 10, 0, 0, 0])).entry 0).bind (·.dataTime) = some 0 ∧
      ((run .spillInputWrite (asking (spillHeld false) 2 0x0C 7 [1, 1, 0, 0, 1])).spill 7).present = true ∧
      ((run .sumpWrite (asking (sumpHeld bay) 2 0x0D 1 ([5] ++ beBytes 3 600 ++ beBytes 3 600))).sump 1).high = false ∧
      (run .sumpWrite (asking (sumpHeld bay) 2 0x0D 1 ([0] ++ beBytes 3 7 ++ beBytes 3 5))).sump 1 =
        { Reset.sump with config := ⟨0, 7, 5⟩ } := by decide +kernel

theorem test_other_writes :
    (run .tableWrite (asking bay 2 0x09 15 (classBytes class2))).cls 15 = class2 ∧
      (run .tableWrite (asking bay 2 0x07 31 (classifierBytes rule2))).fcl.table[31] = some rule2 ∧
      ((run .pollListWrite (asking bay 2 0x08 31 [62, 1, 0, 100, 0, 1, 0, 0, 0])).entry 31).map
        (fun x => (x.station, x.interval, x.state, x.due)) = some (62, 100, .absent, true) ∧
      ((run .deliveryOrderWrite (asking bay 2 0x0B 15
        (beBytes 2 65535 ++ beBytes 4 1 ++ [7, 5] ++ beBytes 4 1))).order 15).map (·.reference) = some 65535 ∧
      ((run .sumpWrite (asking plain 2 0x0D 3 ([62] ++ beBytes 3 5 ++ beBytes 3 5))).sump 3).config =
        ⟨62, 5, 5⟩ ∧
      reply .bayParameterWrite (asking bay 2 0x0E 6 (beBytes 2 600)) = [2, 0x0E, 0, 6, 9, 0, 0, 120] ∧
      ((run .spillInputWrite (asking (spillAs true) 2 0x0C 7 [1, 1, 0, 50, 2])).spill 7).timing = some 10000000 := by
  decide +kernel

/-! ### Spill and shutdown -/

def wetting (timing : Option Nat) (raw : Bool) : State := bay.setSpill 1
  { enabled := true, activeLow := false, debounce := 50, level := .bayStop, raw := raw, timing := timing,
    present := false }
def opening (timing : Option Nat) : State := bay.setLoop 1 { isOpen := true, timing := timing, present := false }
def latched (s : State) : State := s.setSsd { s.ssd with
  causes := upd s.ssd.causes (CauseKey.place (.spill 1)) (some { active := false, level := .isolate }),
  level := .isolate }
def sounding : State := levelled .bayStop (bay.setSsd { bay.ssd with hornDue := 10000000 })

theorem levelHighest_latched : LevelIsHighest (latched (wetting (some 9950000) true)) :=
  (levelIsHighest_iff _).2 (by decide +kernel)

/-- Each clause, the timers at their last moment, with no entry in the cause set and with a LATCHED one. -/
theorem witness_ShutdownInputs :
    ((wetting none false).spill 1).enabled = true ∧ ((wetting none false).spill 1).present = false ∧
      ((wetting none false).spill 1).activeLow = false ∧ ((wetting none false).spill 1).debounce ≠ 0 ∧
      (LevelIsHighest (wetting (some 9950000) true) ∧ LevelIsHighest (latched (wetting (some 9950000) true))) ∧
      ((wetting (some 9950000) true).spill 1).timing = some 9950000 ∧ 9950000 + 50 * 1000 = bay.clock ∧
      ((wetting (some 9950000) true).spill 1).raw ≠ ((wetting (some 9950000) true).spill 1).activeLow ∧
      (wetting (some 9950000) true).cause (.spill 1) = none ∧
      (latched (wetting (some 9950000) true)).cause (.spill 1) = some { active := false, level := .isolate } ∧
      (LevelIsHighest (opening (some 9990000)) ∧ WorkReserved (opening (some 9990000))) ∧
      ((opening (some 9990000)).loop 1).timing = some 9990000 ∧ 9990000 + 10000 = bay.clock ∧
      ((opening (some 9990000)).loop 1).isOpen = true ∧ (opening (some 9990000)).cause (.estop 1) = none ∧
      sounding.ssd.level = .bayStop ∧ sounding.ssd.silenced = false ∧ sounding.ssd.hornDue = sounding.clock :=
  ⟨by decide +kernel, by decide +kernel, by decide +kernel, by decide +kernel,
    ⟨(levelIsHighest_iff _).2 (by decide +kernel), levelHighest_latched⟩, by decide +kernel, by decide +kernel,
    by decide +kernel, by decide +kernel, by decide +kernel,
    ⟨(levelIsHighest_iff _).2 (by decide +kernel), workReserved_of_test (by decide +kernel)⟩, by decide +kernel⟩

theorem test_shutdown_inputs :
    (run (.spillDebounceExpiry 1) (wetting (some 9950000) true)).ssd.level = .bayStop ∧
      (run (.spillDebounceExpiry 1) (wetting (some 9950001) true)).ssd.level = .normal ∧
      (run (.spillDebounceExpiry 1) (latched (wetting (some 9950000) true))).cause (.spill 1) =
        some { active := true, level := .isolate } ∧
      (run (.estopTimerExpiry 1) (opening (some 9990000))).ssd.level = .isolate ∧
      (run .hornPulseToggle sounding).horn ≠ sounding.horn := by decide +kernel

theorem highest_of_ssd {s t : State} (h : t.ssd = s.ssd) (hs : LevelIsHighest s) : LevelIsHighest t := by
  simpa [LevelIsHighest, State.cause, h] using hs

/-- Each request, a stop at each level and the horn at NORMAL and above it. -/
theorem witness_ShutdownRequests :
    (Asked bay 3 0x36 0 [Level.bayStop.code] ∧ Asked bay 3 0x36 0 [Level.isolate.code] ∧
        Asked (latched bay) 3 0x35 0 [] ∧ Asked bay 3 0x37 0 [] ∧ Asked (levelled .bayStop bay) 3 0x37 0 []) ∧
      LevelIsHighest (asking bay 3 0x36 0 [Level.isolate.code]) ∧ bay.cause .siteStop = none ∧
      bay.ssd.level = .normal ∧ (levelled .bayStop bay).ssd.level ≠ .normal :=
  ⟨⟨asked .., asked .., asked .., asked .., asked ..⟩, highest_of_ssd rfl bay_level, by decide +kernel⟩

theorem test_shutdown_requests :
    reply .siteStop (asking bay 3 0x36 0 [2]) = [3, 0x36, 0, 0, 9, 0, 2] ∧
      ((run .siteStop (asking fast 3 0x36 0 [1])).point 0).state = .stopping ∧
      reply .shutdownClear (asking (latched bay) 3 0x35 0 []) = [3, 0x35, 0, 0, 9, 0, 1, 0] ∧
      (run .shutdownClear (asking (latched bay) 3 0x35 0 [])).ssd.level = .normal ∧
      reply .hornSilence (asking bay 3 0x37 0 []) = [3, 0x37, 0, 0, 9, 8] := by decide +kernel

/-! ### Journal, events and counters -/

def deliveryRecord (n : Nat) : Record := .delivery
  { number := n, reference := 12, tanker := 500, tank := 0, product := 0, permitted := 0, gross := 0, net := 0,
    lastTemp := 0, startTime := 0, endTime := 0, timeValid := false, endCause := .tankerEnd }
def recorded (full : Bool) : State := bay.setJev { bay.jev with
  journal := [deliveryRecord 4, deliveryRecord 7], nextNumber := 8, fullReported := full }

theorem recorded_numbered (full : Bool) (access object : Byte) (index : Nat) (params : List Byte) :
    JournalNumbered (asking (recorded full) access object index params) := by
  show (List.map Record.number [deliveryRecord 4, deliveryRecord 7]).Pairwise (· < ·) ∧
    ∀ r ∈ [deliveryRecord 4, deliveryRecord 7], r.number < 8
  decide +kernel

/-- Both requests, with a journal that was not full, that was, and where no record goes. -/
theorem witness_JournalAndEventRequests :
    (Asked (recorded false) 3 0x30 0 [BitVec.ofNat 8 1] ∧ Asked (recorded false) 3 0x30 0 [BitVec.ofNat 8 2]) ∧
      (∀ full ∈ [false, true], ∀ n ∈ [3, 4, 4294967295], Asked (recorded full) 3 0x31 0 (beBytes 4 n) ∧
        JournalNumbered (asking (recorded full) 3 0x31 0 (beBytes 4 n))) ∧
      (recorded true).jev.fullReported = true ∧ (recorded true).jev.spent = false ∧
      (recorded true).jev.nextNumber + (recorded true).jev.reserved ≤ 4294967295 ∧
      (recorded true).jev.journal.filter (fun r => decide (4 < r.number)) = [deliveryRecord 7] := by
  refine ⟨⟨asked .., asked ..⟩, fun full _ n _ => ⟨asked _ _ _ _ _ ?_, recorded_numbered ..⟩, by decide +kernel⟩
  revert full
  decide +kernel

/-- R164: the record a release names goes with those before it. -/
theorem test_journal_release :
    reply .journalRelease (asking (recorded true) 3 0x31 0 (beBytes 4 4)) = [3, 0x31, 0, 0, 9, 0, 0, 1] ∧
      (run .journalRelease (asking (recorded true) 3 0x31 0 (beBytes 4 4))).jev.fullReported = false ∧
      (reply .journalRead (asking (recorded true) 3 0x30 0 [2])).length = 6 + 5 + 2 * 37 := by decide +kernel

def masked (pending : Bool) : State := bay.setJev { bay.jev with
  masks := Vector.replicate 8 true, pendings := Vector.replicate 8 pending }
def maskParams (m : Fin 8 → Bool) : List Byte := all8.flatMap (fun g => flagByte (m g))

/-- Each request, the masks dropped with nothing pending and with every flag set. -/
theorem witness_JournalAndEventRequests_events :
    (Asked (masked false) 3 0x32 0 (maskParams (fun _ => false)) ∧
        Asked (masked true) 3 0x32 0 (maskParams (fun g => decide (g.val < 4))) ∧ Asked (masked true) 3 0x33 0 [] ∧
        Asked bay 3 0x34 0 [1] ∧ Asked bay 3 0x34 0 [2] ∧ Asked bay 3 0x34 0 [3]) ∧
      (∀ g : Fin 8, (masked false).jev.masks[g.val] = true ∧ (masked false).jev.pendings[g.val] = false ∧
        (masked true).jev.pendings[g.val] = true) ∧ (masked true).jev.queue.length < 25 :=
  ⟨⟨asked .., asked .., asked .., asked .., asked .., asked ..⟩, by decide +kernel⟩

/-- R169: dropping a mask whose flag is pending reports the group. -/
theorem test_event_mask :
    (run .eventMask (asking (masked true) 3 0x32 0 (maskParams (fun g => decide (g.val ≠ 3))))).jev.queue.getLast?.map
        (fun e => (e.kind, e.source)) = some (.groupPending, 4) ∧
      reply .eventPendingRead (asking (masked true) 3 0x33 0 []) =
        [3, 0x33, 0, 0, 9, 0, 1, 1, 1, 1, 1, 1, 1, 1, 0] ∧
      (run .countersRead (asking offline 3 0x34 0 [1])).spt.counters = Reset.siteCounters := by decide +kernel

/-! ### Prover and management -/

/-- Each index, a captured value, and each reset. -/
theorem witness_ProverIsArmed :
    (Asked bay 3 0x38 7 [] ∧ Asked bay 3 0x38 0xFFFF [] ∧ Asked bay 3 0x38 8 [] ∧ Asked bay 3 0x38 0xFFFE []) ∧
      (detector (edge false 9999980) (some 0) (some ⟨7, 5, 9000, false⟩) bay).mtc.capture = some ⟨7, 5, 9000, false⟩ ∧
      exec .proverEdge (detector (edge false 9999980) (some 0) (some ⟨7, 5, 9000, false⟩) bay) =
        .next (run .proverEdge (detector (edge false 9999980) (some 0) (some ⟨7, 5, 9000, false⟩) bay)) ∧
      exec .powerOn bay = .next (run .powerOn bay) ∧ exec .lineReset bay = .next (run .lineReset bay) ∧
      leaving.mgt.softReset = some 0 ∧ exec (.softResetTaken 0) leaving = .next (run (.softResetTaken 0) leaving) :=
  ⟨⟨asked .., asked .., asked .., asked ..⟩, rfl, rfl, rfl, rfl, rfl, rfl⟩

theorem test_prover_arm :
    (run .proverArm (asking bay 3 0x38 7 [])).mtc.armed = some 7 ∧
      reply .proverArm (asking bay 3 0x38 8 []) = [3, 0x38, 0, 8, 9, 2] := by decide +kernel

/-- Each request, the capture record empty and full. -/
theorem witness_OtherRequests :
    (Asked bay 3 0x39 0 [] ∧ Asked (detector (still false) none (some ⟨7, 5, 9000, true⟩) bay) 3 0x39 0 [] ∧
        Asked bay 3 0x3E 0 [] ∧ Asked bay 3 0x3D 0 [] ∧ Asked bay 3 0x3A 0 []) ∧
      bay.mtc.capture = none ∧ bay.entry 0 = some entry0 ∧ bay.fsm.exchange = none ∧ bay.fsm.lrq = false :=
  ⟨⟨asked .., asked .., asked .., asked .., asked ..⟩, rfl, by decide +kernel, rfl, rfl⟩

theorem test_other_requests :
    reply .proverRead (asking (detector (still false) none (some ⟨7, 5, 9000, true⟩) bay) 3 0x39 0 []) =
        [3, 0x39, 0, 0, 9, 0, 7, 0, 0, 0, 5, 0, 0, 0, 0, 0x23, 0x28, 1, 1] ∧
      (run .softReset (asking bay 3 0x3D 0 [])).mgt.softReset = some 1 ∧
      ((run .stationRearm (asking bay 3 0x3A 0 [])).entry 0).map (·.state) = some .absent ∧
      (reply .statusRead (asking bay 3 0x3E 0 [])).length = 6 + 30 + 39 := by decide +kernel

def silent : State := bay.setMgt { bay.mgt with silenceDue := some 10000 }

/-- Each clause, the timer and the tick at their last moment. -/
theorem witness_ClockAndLink :
    silent.mgt.silenceDue = some silent.ms ∧ silent.mgt.online = true ∧
      (timed 0xFFFFFFFF).mgt.timeValid = true ∧ (timed 0xFFFFFFFF).mgt.wallDue ≤ (timed 0xFFFFFFFF).clock ∧
      Asked (timed 5) 3 0x22 0 (beBytes 4 (0xFFFFFFFF : BitVec 32).toNat) :=
  ⟨by decide +kernel, by decide +kernel, by decide +kernel, by decide +kernel, asked ..⟩

theorem test_clock :
    (run .wallClockTick (timed 0xFFFFFFFF)).mgt.wall = 0 ∧ (run .linkSilenceExpiry silent).mgt.online = false ∧
      reply .timeSet (asking (timed 5) 3 0x22 0 (beBytes 4 9)) = [3, 0x22, 0, 0, 9, 0, 1, 0, 0, 0, 5] ∧
      reply .timeSet (asking bay 3 0x22 0 (beBytes 4 9)) = [3, 0x22, 0, 0, 9, 0, 0, 0, 0, 0, 0] := by decide +kernel

/-- Each clause: checks passed and failed, each commission state, and work open or not. -/
theorem witness_BayIsCommissioned :
    (Asked plain 3 0x20 0 [] ∧ Asked State.reset 3 0x20 0 [] ∧ Asked bay 3 0x20 0 [] ∧ Asked fast 3 0x21 0 [] ∧
        Asked bay 3 0x21 0 [] ∧ Asked plain 3 0x21 0 []) ∧
      WorkReserved (asking plain 3 0x20 0 []) ∧ WorkReserved (asking State.reset 3 0x20 0 []) ∧
      plain.mgt.commission = .uncommissioned ∧ (∀ b ∈ plain.commissionChecks, ¬b.1) ∧ bay.mgt.commission = .commissioned ∧
      (fast.point 0).context ≠ none ∧ (∀ p, (bay.point p).context = none) ∧ (∀ k, (bay.tank k).delivery = none) ∧
      ∀ k, bay.slot k = none :=
  ⟨⟨asked .., asked .., asked .., asked .., asked .., asked ..⟩, workReserved_of_test (by decide +kernel),
    workReserved_of_test (by decide +kernel), rfl, (commissionFault_eq_none_iff plain).1 (by decide +kernel), rfl,
    by decide +kernel⟩

/-- The plain bay with its tank's configuration and strapping table so, and with its point's so. -/
def tankSo (c : TankConfig) (l : Option (List StrapPoint)) : State :=
  plain.setTank 0 { tank0 with config := some c, strap := l }
def pointSo (k : PointConfig) : State := plain.setPoint 0 { plain.point 0 with config := some k }

/-- A state for each check code, with what COMMISSION finds; the first of two that fail is found. -/
def lacking : List (State × CheckFault) :=
  let tank := fun (c : TankConfig) l code i => (tankSo c l, (⟨0x02, 0, code, i⟩ : CheckFault))
  let point := fun (k : PointConfig) code => (pointSo k, (⟨0x04, 0, code, none⟩ : CheckFault))
  let level := fun (a b : Nat) => some [(⟨a, 0⟩ : StrapPoint), ⟨1000, 1000⟩, ⟨b, 900⟩]
  [(State.reset, ⟨0x01, 0, .noProduct, none⟩),
    (plain.setMtc { plain.mtc with channels := upd plain.mtc.channels 7 (Reset.channel false false 0) },
      ⟨0x06, 7, .channelK, none⟩),
    tank { tankCfg with product := 1 } none .tankProduct none, tank tankCfg none .strapAbsent none,
    tank tankCfg (level 1000 2000) .strapLevels (some 1), tank tankCfg (level 0 1000) .strapLevels (some 2),
    tank tankCfg (level 0 1001) .strapVolumes (some 2),
    tank { tankCfg with low := 10000 } (some strap0) .tankLimits none,
    tank { tankCfg with capacity := 20000 } (some strap0) .tankLimits none,
    tank { tankCfg with highHigh := 0 } (some strap0) .tankHighHigh none,
    tank { tankCfg with highHigh := 2001 } (some strap0) .tankHighHigh none,
    tank { tankCfg with safeFill := 0 } (some strap0) .tankSafeFill none,
    tank { tankCfg with safeFill := 2500001 } (some strap0) .tankSafeFill none,
    tank { tankCfg with gauge := 0 } (some strap0) .tankGauge none,
    point { pointCfg with product := 1 } .pointProduct, point { pointCfg with tank := 1 } .pointTank,
    point { pointCfg with pump := 1 } .pointPump]

theorem witness_BayIsCommissioned_lacking :
    ∀ e ∈ lacking, Asked e.1 3 0x20 0 [] ∧ e.1.mgt.commission = .uncommissioned ∧
      WorkReserved (asking e.1 3 0x20 0 []) ∧ FirstFailing (asking e.1 3 0x20 0 []).commissionChecks e.2 := by
  intro e he
  have h : ∀ e ∈ lacking, (e.1.mgt.softReset.isNone && decide (e.1.spt.tx.length < 15)) = true ∧
      e.1.mgt.commission = .uncommissioned ∧ workTest (asking e.1 3 0x20 0 []) = true ∧
      (asking e.1 3 0x20 0 []).commissionFault = some e.2 := by decide +kernel
  obtain ⟨h1, h2, h3, h4⟩ := h e he
  exact ⟨asked _ _ _ _ _ h1, h2, workReserved_of_test h3, (commissionFault_eq_some_iff ..).1 h4⟩

/-- R130, R175: the data of a refusal, with the strapping point where there is one. -/
theorem test_commission_refused : ∀ e ∈ lacking,
    (reply .commission (asking e.1 3 0x20 0 [])).drop 5 =
      [8, e.2.object, BitVec.ofNat 8 e.2.index, e.2.code.code] ++ (e.2.strapPoint.map (BitVec.ofNat 8)).toList := by
  decide +kernel

theorem test_commission :
    reply .commission (asking plain 3 0x20 0 []) = [3, 0x20, 0, 0, 9, 0] ∧
      ((run .commission (asking plain 3 0x20 0 [])).point 0).state = .idle ∧
      reply .commission (asking State.reset 3 0x20 0 []) = [3, 0x20, 0, 0, 9, 8, 1, 0, 1] ∧
      reply .decommission (asking fast 3 0x21 0 []) = [3, 0x21, 0, 0, 9, 7] ∧
      ((run .decommission (asking bay 3 0x21 0 [])).tank 0).state = .unset := by decide +kernel

end Sys2Proof.Tests
end

section
/-! What leaves the meter channels alone: the operations of every block but MTC keep the whole block, and an operation
that writes a channel keeps the capture record beside it (section 3.6). -/

namespace Sys2Proof.Machine

/-! ### Shared operations -/

/-- A change of other blocks keeps the meter channels. -/
theorem OnlyBlocks.mtc {l : List Block} {s t : State} (h : OnlyBlocks l s t) (hl : Block.mtc ∉ l) : t.mtc = s.mtc :=
  h.2 .mtc hl

/-- What each turn of a loop keeps the loop keeps. -/
theorem each_keeps {α β : Type} {f : State → α → State} (g : State → β) (h : ∀ s a, g (f s a) = g s) (l : List α)
    (s : State) : g (each l f s) = g s := by
  induction l generalizing s with
  | nil => rfl
  | cons a l ih => exact (ih (f s a)).trans (h s a)

theorem each_mtc {α : Type} {f : State → α → State} (h : ∀ s a, (f s a).mtc = s.mtc) (l : List α) (s : State) :
    (each l f s).mtc = s.mtc := each_keeps State.mtc h l s

theorem each_capture {α : Type} {f : State → α → State} (h : ∀ s a, (f s a).mtc.capture = s.mtc.capture) (l : List α)
    (s : State) : (each l f s).mtc.capture = s.mtc.capture := each_keeps (fun s => s.mtc.capture) h l s

@[simp] theorem State.setChannel_capture (s : State) (c : Fin 8) (x : Channel) :
    (s.setChannel c x).mtc.capture = s.mtc.capture := rfl

@[simp] theorem State.setAccount_mtc (s : State) (slot : Nat) (a : Account) : (s.setAccount slot a).mtc = s.mtc := rfl

@[simp] theorem State.countSite_mtc (s : State) (f : SiteCounters → SiteCounters) : (s.countSite f).mtc = s.mtc := rfl

@[simp] theorem State.countField_mtc (s : State) (f : FieldCounters → FieldCounters) : (s.countField f).mtc = s.mtc := rfl

@[simp] theorem State.raise_mtc (s : State) (k : EventKind) (n : Nat) (d : List Byte) : (s.raise k n d).mtc = s.mtc := rfl

@[simp] theorem State.append_mtc (s : State) (r : Nat → Record) : (s.append r).mtc = s.mtc := rfl

@[simp] theorem State.reservePlace_mtc (s : State) : s.reservePlace.mtc = s.mtc := rfl

@[simp] theorem State.reportFull_mtc (s : State) : s.reportFull.mtc = s.mtc := (reportFull_only s).mtc (by decide)

@[simp] theorem State.offerSite_mtc (s : State) (f : Frame) : (s.offerSite f).mtc = s.mtc :=
  (offerSite_only s f).mtc (by decide)

@[simp] theorem State.offerForward_mtc (s : State) (f : Frame) (g : Bool) : (s.offerForward f g).mtc = s.mtc :=
  (offerForward_only s f g).mtc (by decide)

@[simp] theorem State.claim_mtc (s : State) (w : Waiter) : (s.claim w).mtc = s.mtc := by
  unfold State.claim
  split <;> rfl

@[simp] theorem State.popSite_mtc (s : State) : s.popSite.mtc = s.mtc := rfl

/-! ### Points, tanks and the bay level -/

@[simp] theorem State.modTank_mtc (s : State) (t : Fin 8) (f : Tank → Tank) : (s.modTank t f).mtc = s.mtc := rfl

@[simp] theorem State.modContext_mtc (s : State) (p : Fin 8) (f : Context → Context) : (s.modContext p f).mtc = s.mtc :=
  (modContext_only s p f).mtc (by decide)

@[simp] theorem State.takeFigures_mtc (s : State) (p : Fin 8) : (s.takeFigures p).mtc = s.mtc := s.modContext_mtc p _

@[simp] theorem State.syncPumps_mtc (s : State) : s.syncPumps.mtc = s.mtc := (syncPumps_only s).mtc (by decide)

@[simp] theorem State.sendPanel_mtc (s : State) (p : Fin 8) : (s.sendPanel p).mtc = s.mtc :=
  (sendPanel_only s p).mtc (by decide)

@[simp] theorem State.enterState_mtc (s : State) (p : Fin 8) (x : PointState) : (s.enterState p x).mtc = s.mtc :=
  (enterState_only s p x).mtc (by decide)

@[simp] theorem State.toStopping_mtc (s : State) (p : Fin 8) (c : EndCause) : (s.toStopping p c).mtc = s.mtc :=
  (toStopping_only s p c).mtc (by decide)

@[simp] theorem State.settleTank_mtc (s : State) (t : Fin 8) : (s.settleTank t).mtc = s.mtc := rfl

@[simp] theorem State.evalTank_mtc (s : State) (t : Fin 8) : (s.evalTank t).mtc = s.mtc :=
  (evalTank_only s t).mtc (by decide)

@[simp] theorem State.postBook_mtc (s : State) (t : Fin 8) (d : Int) : (s.postBook t d).mtc = s.mtc :=
  (postBook_only s t d).mtc (by decide)

@[simp] theorem State.refreshTemp_mtc (s : State) (t : Fin 8) : (s.refreshTemp t).mtc = s.mtc := rfl

@[simp] theorem State.endDelivery_mtc (s : State) (t : Fin 8) (c : DeliveryEnd) : (s.endDelivery t c).mtc = s.mtc :=
  (endDelivery_only s t c).mtc (by decide)

@[simp] theorem State.endDeliveries_mtc (s : State) (c : DeliveryEnd) : (s.endDeliveries c).mtc = s.mtc :=
  (endDeliveries_only s c).mtc (by decide)

@[simp] theorem State.reportLockouts_mtc (s : State) : s.reportLockouts.mtc = s.mtc :=
  (reportLockouts_only s).mtc (by decide)

@[simp] theorem State.evalLevel_mtc (s : State) : s.evalLevel.mtc = s.mtc := (evalLevel_only s).mtc (by decide)

/-! ### Accounts (chapter 7) -/

@[simp] theorem State.modAccount_mtc (s : State) (slot : Nat) (f : Account → Account) :
    (s.modAccount slot f).mtc = s.mtc := by
  unfold State.modAccount
  split <;> rfl

@[simp] theorem serviceEvents_mtc (slot : Nat) (h : Option Nat) (s : State) (i : Nat) (a b : Service) :
    (serviceEvents slot h s i a b).mtc = s.mtc := by
  simp [serviceEvents, apply_ite State.mtc]

@[simp] theorem serviceEventsFrom_mtc (slot : Nat) (h : Option Nat) (i : Nat) (l : List Service) (s : State) :
    (serviceEventsFrom slot h i l s).mtc = s.mtc := by
  induction l generalizing i s with
  | nil => rfl
  | cons v rest ih => simp [serviceEventsFrom, ih]

@[simp] theorem State.offerHour_mtc (s : State) (slot : Nat) (a : Account) (p : Fin 8) (n : Nat) :
    (s.offerHour slot a p n).1.mtc = s.mtc := by
  simp only [State.offerHour]
  split <;> simp

@[simp] theorem State.burnStep_mtc (s : State) (slot : Nat) (a : Account) (p : Nat) : (s.burnStep slot a p).mtc = s.mtc := by
  simp only [State.burnStep]
  split
  · rfl
  · simp [apply_ite State.mtc]

@[simp] theorem serviceDoneFrom_mtc (slot : Nat) (p : Fin 6) (n : Nat) (h : Option Nat) (i : Nat) (l : List Service)
    (s : State) : (serviceDoneFrom slot p n h i l s).mtc = s.mtc := by
  induction l generalizing i s with
  | nil => rfl
  | cons v rest ih => simp [serviceDoneFrom, ih, apply_ite State.mtc]

@[simp] theorem State.burnAtRest_mtc (s : State) (slot : Nat) : (s.burnAtRest slot).mtc = s.mtc := by
  unfold State.burnAtRest
  repeat' split
  all_goals simp

@[simp] theorem State.completeServices_mtc (s : State) (slot : Nat) (p : Fin 6) (n : Nat) :
    (s.completeServices slot p n).mtc = s.mtc := by
  unfold State.completeServices
  split <;> simp

@[simp] theorem State.accountCompletion_mtc (s : State) (slot : Nat) (p : Fin 6) (n : Nat) :
    (s.accountCompletion slot p n).mtc = s.mtc := by
  simp [State.accountCompletion]

/-! ### Commitments and panel keys (chapter 5) -/

@[simp] theorem State.recommit_mtc (s : State) (t : Fin 8) (q : Fin 6) (account old new : Nat) :
    (s.recommit t q account old new).mtc = s.mtc := by
  simp [State.recommit]

@[simp] theorem State.postNet_mtc (s : State) (p : Fin 8) (n : Nat) : (s.postNet p n).mtc = s.mtc := by
  unfold State.postNet
  split
  · simp [apply_ite State.mtc]
  · rfl

@[simp] theorem State.flowChecks_mtc (s : State) (p : Fin 8) : (s.flowChecks p).mtc = s.mtc := by
  unfold State.flowChecks
  split
  · simp [apply_ite State.mtc]
  · rfl

@[simp] theorem State.refuse_mtc (s : State) (p : Fin 8) (source : AuthSource) (code : AuthRefusal) :
    (s.refuse p source code).mtc = s.mtc := by
  simp [State.refuse, apply_ite State.mtc]

@[simp] theorem State.ackKey_mtc (s : State) (p : Fin 8) : (s.ackKey p).mtc = s.mtc := by
  simp [State.ackKey, apply_ite State.mtc]

@[simp] theorem State.startKey_mtc (s : State) (p : Fin 8) : (s.startKey p).mtc = s.mtc := by
  unfold State.startKey
  split
  · dsimp only
    split <;> simp [apply_ite State.mtc]
  · rfl

@[simp] theorem State.presetKey_mtc (s : State) (p : Fin 8) (v : Nat) : (s.presetKey p v).mtc = s.mtc := by
  unfold State.presetKey
  split
  · dsimp only
    split <;> simp [apply_ite State.mtc]
  · rfl

@[simp] theorem State.closeSegments_mtc (s : State) (t : Fin 8) : (s.closeSegments t).mtc = s.mtc := by
  refine each_mtc (fun s p => ?_) _ s
  split
  · rfl
  · simp [apply_ite State.mtc]

/-! ### Causes and sumps (chapter 9) -/

@[simp] theorem State.liftSilence_mtc (s : State) : s.liftSilence.mtc = s.mtc := by
  unfold State.liftSilence
  split
  · dsimp only
    split <;> rfl
  · rfl

@[simp] theorem State.raiseCause_mtc (s : State) (k : CauseKey) (l : Level) (m : Byte) : (s.raiseCause k l m).mtc = s.mtc :=
  rfl

@[simp] theorem State.newCause_mtc (s : State) (k : CauseKey) (e : CauseEntry) : (s.newCause k e).mtc = s.mtc := by
  simp [State.newCause]

@[simp] theorem State.causePresent_mtc (s : State) (k : CauseKey) (l : Level) : (s.causePresent k l).mtc = s.mtc := by
  unfold State.causePresent
  split <;> simp [apply_ite State.mtc]

@[simp] theorem State.causeGone_mtc (s : State) (k : CauseKey) : (s.causeGone k).mtc = s.mtc := by
  unfold State.causeGone
  split <;> simp [apply_ite State.mtc]

@[simp] theorem State.conditionChange_mtc (s : State) (k : CauseKey) (l : Level) (before after : Bool) :
    (s.conditionChange k l before after).mtc = s.mtc := by
  unfold State.conditionChange
  split <;> simp

@[simp] theorem State.eventCause_mtc (s : State) (k : CauseKey) (l : Level) : (s.eventCause k l).mtc = s.mtc := by
  unfold State.eventCause
  split <;> simp [apply_ite State.mtc]

@[simp] theorem State.setSpillPresent_mtc (s : State) (i : Fin 8) (present : Bool) :
    (s.setSpillPresent i present).mtc = s.mtc := by
  simp [State.setSpillPresent]

@[simp] theorem State.judgeSpill_mtc (s : State) (i : Fin 8) : (s.judgeSpill i).mtc = s.mtc := by
  simp [State.judgeSpill, apply_ite State.mtc]

@[simp] theorem State.rejudgeSpill_mtc (s : State) (i : Fin 8) : (s.rejudgeSpill i).mtc = s.mtc := by
  simp [State.rejudgeSpill, apply_ite State.mtc]

@[simp] theorem State.judgeSumpLevels_mtc (s : State) (k : Fin 4) : (s.judgeSumpLevels k).mtc = s.mtc := by
  simp only [State.judgeSumpLevels]
  split <;> simp

@[simp] theorem State.setSumpStale_mtc (s : State) (k : Fin 4) (b : Bool) : (s.setSumpStale k b).mtc = s.mtc := by
  simp [State.setSumpStale]

@[simp] theorem State.judgeSumpStale_mtc (s : State) (k : Fin 4) : (s.judgeSumpStale k).mtc = s.mtc := by
  unfold State.judgeSumpStale
  split <;> simp

@[simp] theorem State.sumpSample_mtc (s : State) (k : Fin 4) (l : Nat) : (s.sumpSample k l).mtc = s.mtc := by
  simp [State.sumpSample]

/-! ### Gauges and station data (chapters 8 and 2) -/

@[simp] theorem State.gaugeLeftValid_mtc (s : State) (t : Fin 8) : (s.gaugeLeftValid t).mtc = s.mtc := by
  simp only [State.gaugeLeftValid, State.endDelivery_mtc]
  exact each_mtc (fun s p => by simp [apply_ite State.mtc]) _ s

@[simp] theorem State.gaugeMoves_mtc (s : State) (t : Fin 8) (g : GaugeState) (k : EventKind) :
    (s.gaugeMoves t g k).mtc = s.mtc := by
  simp [State.gaugeMoves, State.gaugeEvent, apply_ite State.mtc]

@[simp] theorem State.sampleFigures_mtc (s : State) (r : GaugeRecord) : (s.sampleFigures r).mtc = s.mtc := by
  simp [State.sampleFigures, apply_ite State.mtc]

@[simp] theorem State.sampleBook_mtc (s : State) (t : Fin 8) : (s.sampleBook t).mtc = s.mtc := by
  simp [State.sampleBook, apply_ite State.mtc]

@[simp] theorem State.sampleHighLevel_mtc (s : State) (t : Fin 8) : (s.sampleHighLevel t).mtc = s.mtc := by
  simp [State.sampleHighLevel, apply_ite State.mtc]

@[simp] theorem State.testLoss_mtc (s : State) (t : Fin 8) (n : Nat) (l : Int) : (s.testLoss t n l).mtc = s.mtc := by
  simp [State.testLoss, apply_ite State.mtc]

@[simp] theorem State.sampleLoss_mtc (s : State) (t : Fin 8) (c : TankConfig) : (s.sampleLoss t c).mtc = s.mtc := by
  unfold State.sampleLoss
  split <;> simp [apply_ite State.mtc]

@[simp] theorem State.gaugeSample_mtc (s : State) (r : GaugeRecord) : (s.gaugeSample r).mtc = s.mtc := by
  unfold State.gaugeSample
  split <;> simp [State.gaugeFault, apply_ite State.mtc]

@[simp] theorem State.reportStale_mtc (s : State) (station : Nat) : (s.reportStale station).mtc = s.mtc := by
  refine (each_mtc (fun s k => ?_) _ _).trans (each_mtc (fun s t => ?_) _ s)
  · split <;> simp [apply_ite State.mtc]
  · split <;> simp [State.gaugeStale, apply_ite State.mtc]

@[simp] theorem State.reportFresh_mtc (s : State) (station : Nat) : (s.reportFresh station).mtc = s.mtc := by
  refine each_mtc (fun s k => ?_) _ s
  split <;> simp [apply_ite State.mtc]

@[simp] theorem State.reportChange_mtc (s : State) (station : Nat) (before after : Bool) :
    (s.reportChange station before after).mtc = s.mtc := by
  unfold State.reportChange
  split <;> simp

/-! ### Runs (chapter 6) -/

@[simp] theorem State.modRun_mtc (s : State) (k : Fin 4) (f : Run → Run) : (s.modRun k f).mtc = s.mtc := by
  unfold State.modRun
  split <;> rfl

@[simp] theorem State.suspendRun_mtc (s : State) (k : Fin 4) (r : Run) (x : SuspendReason) (c : Option AuthRefusal) :
    (s.suspendRun k r x c).mtc = s.mtc := rfl

@[simp] theorem State.finishRun_mtc (s : State) (k : Fin 4) (r : Run) : (s.finishRun k r).mtc = s.mtc := rfl

@[simp] theorem State.continueRun_mtc (s : State) (k : Fin 4) (r : Run) (c : Option EndCause) :
    (s.continueRun k r c).1.mtc = s.mtc := by
  unfold State.continueRun
  repeat' split
  all_goals simp

@[simp] theorem State.stepEnd_mtc (s : State) (run : Option (Nat × Nat)) (c : Option EndCause) (n : Nat) :
    (s.stepEnd run c n).1.mtc = s.mtc := by
  unfold State.stepEnd
  repeat' split
  all_goals simp [apply_ite Prod.fst, apply_ite State.mtc]

@[simp] theorem State.abandonRun_mtc (s : State) (k : Fin 4) (r : Run) (x : AbandonReason) :
    (s.abandonRun k r x).mtc = s.mtc := by
  simp only [State.abandonRun]
  split <;> simp

/-! ### Completion of a transaction (R88, R94, R97) -/

@[simp] theorem State.contextCount_mtc (s : State) (p : Fin 8) : (s.contextCount p).mtc = s.mtc := by
  unfold State.contextCount
  split <;> simp

@[simp] theorem State.contextPhaseError_mtc (s : State) (p : Fin 8) : (s.contextPhaseError p).mtc = s.mtc := by
  unfold State.contextPhaseError
  split <;> simp [apply_ite State.mtc]

@[simp] theorem State.releasePoint_mtc (s : State) (p : Fin 8) (c : Context) (n : Nat) :
    (s.releasePoint p c n).mtc = s.mtc := by
  simp [State.releasePoint]

@[simp] theorem State.completeWork_mtc (s : State) (p : Fin 8) (k : PointConfig) (c : Context) (f : Figures) :
    (s.completeWork p k c f).mtc = s.mtc := by
  simp [State.completeWork, State.writeDispense, State.reportOverrun, State.settleCommitment, apply_ite State.mtc]

/-! ### Deliveries (section 8.5) -/

@[simp] theorem State.refuseDelivery_mtc (s : State) (o : Fin 16) (x : Order) (c : DeliveryRefusal) :
    (s.refuseDelivery o x c).mtc = s.mtc := by
  simp [State.refuseDelivery, apply_ite State.mtc]

@[simp] theorem State.acceptDelivery_mtc (s : State) (o : Fin 16) (x : Order) (room : Nat) :
    (s.acceptDelivery o x room).mtc = s.mtc := by
  simp [State.acceptDelivery]

@[simp] theorem State.deliveryRequest_mtc (s : State) (o : Fin 16) (x : Order) (n : Nat) (t : Fin 8) (q : Fin 6) :
    (s.deliveryRequest o x n t q).1.mtc = s.mtc := by
  unfold State.deliveryRequest
  split
  · split <;> simp
  · rfl
  · rfl

@[simp] theorem State.deliveryReport_mtc (s : State) (o : Fin 16) (x : Order) (n : Nat) (t : Int) :
    (s.deliveryReport o x n t).mtc = s.mtc := by
  simp [State.deliveryReport, apply_ite State.mtc]

@[simp] theorem State.deliveryRunning_mtc (s : State) (o : Fin 16) (x : Order) (n : Nat) (t : Int) :
    (s.deliveryRunning o x n t).1.mtc = s.mtc := by
  unfold State.deliveryRunning
  split
  · rfl
  · split <;> simp
  · rfl

@[simp] theorem State.deliveryEnd_mtc (s : State) (o : Fin 16) (x : Order) (n : Nat) (t : Int) :
    (s.deliveryEnd o x n t).1.mtc = s.mtc := by
  unfold State.deliveryEnd
  split
  · split <;> simp
  · simp

@[simp] theorem State.deliveryPhase_mtc (s : State) (o : Fin 16) (x : Order) (f : DeliveryFrame) :
    (s.deliveryPhase o x f).1.mtc = s.mtc := by
  unfold State.deliveryPhase
  split <;> split <;> simp

@[simp] theorem State.noOrder_mtc (s : State) (f : DeliveryFrame) : (s.noOrder f).mtc = s.mtc := by
  unfold State.noOrder
  split <;> simp

@[simp] theorem State.deliveryFrame_mtc (s : State) (b : List Byte) : (s.deliveryFrame b).1.mtc = s.mtc := by
  unfold State.deliveryFrame
  repeat' split
  all_goals simp

@[simp] theorem State.takeDelivery_mtc (s : State) (h : Held) : (s.takeDelivery h).mtc = s.mtc := by
  simp [State.takeDelivery]

/-! ### The segment master (chapter 2) -/

@[simp] theorem State.forwardFrame_mtc (s : State) (d : Direction) (f : Frame) (g : Bool) :
    (s.forwardFrame d f g).mtc = s.mtc := by
  cases d <;> simp [State.forwardFrame, apply_ite State.mtc]

@[simp] theorem State.modPoll_mtc (s : State) (e : Fin 32) (f : PollEntry → PollEntry) : (s.modPoll e f).mtc = s.mtc := by
  unfold State.modPoll
  split <;> rfl

@[simp] theorem State.noteData_mtc (s : State) (station : Nat) : (s.noteData station).mtc = s.mtc := by
  unfold State.noteData
  split <;> simp

@[simp] theorem State.incompatible_mtc (s : State) (e : Fin 32) (x : PollEntry) : (s.incompatible e x).mtc = s.mtc := rfl

@[simp] theorem State.joined_mtc (s : State) (e : Fin 32) (x : PollEntry) (n : Nat) (l : Bool) (m : Byte) :
    (s.joined e x n l m).mtc = s.mtc := rfl

@[simp] theorem State.resolve_mtc (s : State) (e : Fin 32) (x : PollEntry) : (s.resolve e x).mtc = s.mtc := by
  unfold State.resolve
  split <;> simp

@[simp] theorem State.announceAcking_mtc (s : State) (e : Fin 32) (x : PollEntry) (c k : Byte) (echo : Bool) :
    (s.announceAcking e x c k echo).mtc = s.mtc := by
  simp [State.announceAcking, apply_ite State.mtc]

@[simp] theorem State.announce_mtc (s : State) (e : Fin 32) (x : PollEntry) (q : Bool) (b : List Byte) :
    (s.announce e x q b).mtc = s.mtc := by
  simp only [State.announce]
  split <;> simp

@[simp] theorem State.legacyReply_mtc (s : State) (e : Fin 32) (x : PollEntry) : (s.legacyReply e x).mtc = s.mtc := by
  simp [State.legacyReply, apply_ite State.mtc]

@[simp] theorem State.plainReply_mtc (s : State) (e : Fin 32) (x : PollEntry) : (s.plainReply e x).mtc = s.mtc := by
  unfold State.plainReply
  split <;> simp

@[simp] theorem State.applyOutcome_mtc (s : State) (e : Fin 32) (x : PollEntry) (n : Nat) :
    (s.applyOutcome e x n).mtc = s.mtc := by
  simp [State.applyOutcome, apply_ite State.mtc]

@[simp] theorem State.reschedule_mtc (s : State) (e : Fin 32) (n : Nat) : (s.reschedule e n).mtc = s.mtc := by
  simp [State.reschedule]

@[simp] theorem State.tryGrant_mtc (s : State) : s.tryGrant.mtc = s.mtc := by
  simp [State.tryGrant, State.grantLoan, apply_ite State.mtc]

@[simp] theorem State.endExchange_mtc (s : State) (x : PollExchange) : (s.endExchange x).mtc = s.mtc := by
  simp only [State.endExchange, State.tryGrant_mtc]
  split <;> simp

@[simp] theorem State.loanEval_mtc (s : State) : s.loanEval.mtc = s.mtc := by
  simp [State.loanEval, apply_ite State.mtc]

@[simp] theorem State.raiseRecall_mtc (s : State) : s.raiseRecall.mtc = s.mtc := by
  simp [State.raiseRecall, apply_ite State.mtc]

@[simp] theorem State.endLoan_mtc (s : State) : s.endLoan.mtc = s.mtc := by
  simp [State.endLoan]

@[simp] theorem State.grantForward_mtc (s : State) (f : Forward) : (s.grantForward f).mtc = s.mtc := rfl

@[simp] theorem State.grantPoll_mtc (s : State) (e : Fin 32) (x : PollEntry) : (s.grantPoll e x).mtc = s.mtc := by
  simp [State.grantPoll]

@[simp] theorem State.replyEntry_mtc (s : State) (x : PollExchange) (f : Frame) : (s.replyEntry x f).mtc = s.mtc := by
  unfold State.replyEntry
  split <;> simp [apply_ite State.mtc]

@[simp] theorem State.countReply_mtc (s : State) (x : PollExchange) : (s.countReply x).mtc = s.mtc := by
  simp [State.countReply, apply_ite State.mtc]

@[simp] theorem State.endIfInvalid_mtc (s : State) (w : Bool) : (s.endIfInvalid w).mtc = s.mtc := by
  unfold State.endIfInvalid
  split <;> simp

@[simp] theorem State.holdFrame_mtc (s : State) (f : Frame) (w : Bool) : (s.holdFrame f w).mtc = s.mtc := by
  unfold State.holdFrame
  split <;> simp

@[simp] theorem State.keepUnused_mtc (s : State) (e : Fin 32) (b : List Byte) : (s.keepUnused e b).mtc = s.mtc := rfl

@[simp] theorem State.writePoll_mtc (s : State) (e : Fin 32) (x : Option PollEntry) : (s.writePoll e x).mtc = s.mtc := by
  simp only [State.writePoll]
  split <;> simp [apply_ite State.mtc]

/-! ### The site link and management (chapters 1 and 11) -/

@[simp] theorem State.restartSilence_mtc (s : State) : s.restartSilence.mtc = s.mtc := rfl

@[simp] theorem State.hearSite_mtc (s : State) : s.hearSite.mtc = s.mtc := by
  simp [State.hearSite, apply_ite State.mtc]

@[simp] theorem State.receiveSite_mtc (s : State) (f : Frame) : (s.receiveSite f).mtc = s.mtc := by
  simp [State.receiveSite, apply_ite State.mtc]

@[simp] theorem State.answerUnserved_mtc (s : State) (f : Frame) : (s.answerUnserved f).mtc = s.mtc := by
  unfold State.answerUnserved
  split <;> simp [State.no, apply_ite State.mtc]

@[simp] theorem State.setAssembly_mtc (s : State) (a : Option Assembly) : (s.setAssembly a).mtc = s.mtc := rfl

@[simp] theorem State.paramWritten_mtc (s : State) (p : Param) : (s.paramWritten p).mtc = s.mtc := by
  unfold State.paramWritten
  split <;> simp

@[simp] theorem State.reportRoom_mtc (s : State) (n : Nat) : (s.reportRoom n).mtc = s.mtc := by
  simp [State.reportRoom, apply_ite State.mtc]

@[simp] theorem State.groupPending_mtc (old : Vector Bool 8) (s : State) (g : Fin 8) :
    (State.groupPending old s g).mtc = s.mtc := by
  simp [State.groupPending, apply_ite State.mtc]

@[simp] theorem State.commissionTank_mtc (s : State) (t : Fin 8) : (s.commissionTank t).mtc = s.mtc := by
  simp [State.commissionTank, apply_ite State.mtc]

@[simp] theorem State.commissionPoint_mtc (s : State) (p : Fin 8) : (s.commissionPoint p).mtc = s.mtc := by
  simp [State.commissionPoint, apply_ite State.mtc]

@[simp] theorem State.commissionBay_mtc (s : State) : s.commissionBay.mtc = s.mtc := by
  simp only [State.commissionBay]
  rw [each_mtc State.judgeSumpStale_mtc, each_mtc State.commissionTank_mtc, each_mtc State.commissionPoint_mtc,
    State.setMgt_mtc]

@[simp] theorem State.decommissionPoint_mtc (s : State) (p : Fin 8) : (s.decommissionPoint p).mtc = s.mtc := by
  simp [State.decommissionPoint, apply_ite State.mtc]

@[simp] theorem State.decommissionBay_mtc (s : State) : s.decommissionBay.mtc = s.mtc := by
  simp only [State.decommissionBay]
  rw [each_mtc State.judgeSumpStale_mtc, each_mtc fun s t => s.modTank_mtc t Tank.decommission,
    each_mtc State.decommissionPoint_mtc, State.setMgt_mtc]

/-! ### The soft reset (R54, R179) -/

@[simp] theorem State.resetPanels_mtc (s : State) : s.resetPanels.mtc = s.mtc :=
  each_mtc (fun s p => by simp [apply_ite State.mtc]) _ s

@[simp] theorem State.raiseResetDone_mtc (s : State) : s.raiseResetDone.mtc = s.mtc := rfl

@[simp] theorem State.resetEvents_mtc (s : State) (place : Fin 5) : (s.resetEvents place).mtc = s.mtc := by
  simp [State.resetEvents, each_mtc, apply_ite State.mtc]

@[simp] theorem State.afterSoftReset_mtc (s : State) : s.afterSoftReset.mtc = s.mtc := by
  simp [State.afterSoftReset]

/-! ### What opens a context clears its channel's creep and keeps the capture record (R48) -/

@[simp] theorem State.clearCreep_capture (s : State) (c : Fin 8) : (s.clearCreep c).mtc.capture = s.mtc.capture := rfl

@[simp] theorem State.openContext_capture (s : State) (p : Fin 8) (k : PointConfig) (c : Context) :
    (s.openContext p k c).mtc.capture = s.mtc.capture := by
  simp [State.openContext]

@[simp] theorem State.authoriseLimit_capture (s : State) (r : AuthRequest) (k : PointConfig) (slot : Nat) (a : Account)
    (h : HourResult) : (s.authoriseLimit r k slot a h).1.mtc.capture = s.mtc.capture := by
  simp only [State.authoriseLimit]
  repeat' split
  all_goals simp

@[simp] theorem State.authoriseHours_capture (s : State) (r : AuthRequest) (k : PointConfig) (slot : Nat) (a : Account) :
    (s.authoriseHours r k slot a).1.mtc.capture = s.mtc.capture := by
  simp only [State.authoriseHours]
  cases r.hour with
  | none => dsimp only; split <;> simp
  | some h => dsimp only; split <;> simp

@[simp] theorem State.authorise_capture (s : State) (r : AuthRequest) :
    (s.authorise r).1.mtc.capture = s.mtc.capture := by
  unfold State.authorise
  repeat' split
  all_goals simp

@[simp] theorem State.offerStep_capture (s : State) (k : Fin 4) (r : Run) (x : RunStep) (v : Nat) (h : Option Nat) :
    (s.offerStep k r x v h).1.mtc.capture = s.mtc.capture := by
  simp only [State.offerStep]
  split <;> simp

@[simp] theorem State.nextStep_capture (s : State) (k : Fin 4) (r : Run) :
    (s.nextStep k r).1.mtc.capture = s.mtc.capture := by
  simp only [State.nextStep]
  split <;> simp

@[simp] theorem State.startRun_capture (s : State) (k : Fin 4) (r : Run) (p : Fin 8) (h : Option Nat) :
    (s.startRun k r p h).mtc.capture = s.mtc.capture := by
  simp only [State.startRun]
  split <;> simp

@[simp] theorem State.followOn_capture (s : State) (k : Option (Fin 4)) : (s.followOn k).mtc.capture = s.mtc.capture := by
  unfold State.followOn
  repeat' split
  all_goals simp

@[simp] theorem State.tagRead_capture (s : State) (p : Fin 8) (tag : Nat) (h : Option Nat) :
    (s.tagRead p tag h).mtc.capture = s.mtc.capture := by
  simp only [State.tagRead]
  repeat' split
  all_goals simp

@[simp] theorem State.resumeRun_capture (s : State) (k : Fin 4) (r : Run) :
    (s.resumeRun k r).1.mtc.capture = s.mtc.capture := by
  unfold State.resumeRun
  split <;> simp

@[simp] theorem State.resumeKey_capture (s : State) (p : Fin 8) : (s.resumeKey p).mtc.capture = s.mtc.capture := by
  unfold State.resumeKey
  repeat' split
  all_goals simp

@[simp] theorem State.complete_capture (s : State) (p : Fin 8) : (s.complete p).mtc.capture = s.mtc.capture := by
  simp only [State.complete]
  split <;> simp

/-! ### Role records reach points and runs, never the capture record (R14) -/

@[simp] theorem State.panelKey_capture (s : State) (p : Fin 8) (k : PanelKey) :
    (s.panelKey p k).mtc.capture = s.mtc.capture := by
  cases k <;> simp [State.panelKey]

@[simp] theorem State.handOff_capture (s : State) (r : RoleRecord) : (s.handOff r).mtc.capture = s.mtc.capture := by
  cases r <;> simp [State.handOff]

@[simp] theorem State.act_capture (s : State) (e : ClassifierEntry) (f : Frame) :
    (s.act e f).mtc.capture = s.mtc.capture := by
  unfold State.act
  repeat' split
  all_goals simp

@[simp] theorem State.classify_capture (s : State) (d : Direction) (f : Frame) :
    (s.classify d f).mtc.capture = s.mtc.capture := by
  simp only [State.classify]
  repeat' split
  all_goals simp

@[simp] theorem State.goodReply_capture (s : State) (x : PollExchange) (f : Frame) :
    (s.goodReply x f).mtc.capture = s.mtc.capture := by
  simp only [State.goodReply]
  repeat' split
  all_goals simp

@[simp] theorem State.judgeReply_capture (s : State) (h : Held) : (s.judgeReply h).mtc.capture = s.mtc.capture := by
  unfold State.judgeReply
  repeat' split
  all_goals simp

@[simp] theorem State.snoop_capture (s : State) (h : Held) : (s.snoop h).mtc.capture = s.mtc.capture := by
  simp only [State.snoop]
  repeat' split
  all_goals simp

/-! ### Counts and windows (chapter 3) -/

@[simp] theorem State.creepCount_capture (s : State) (c : Fin 8) (forward : Bool) :
    (s.creepCount c forward).mtc.capture = s.mtc.capture := by
  simp only [State.creepCount]
  split <;> simp

@[simp] theorem State.handCount_capture (s : State) (c : Fin 8) (forward : Bool) :
    (s.handCount c forward).mtc.capture = s.mtc.capture := by
  unfold State.handCount
  split <;> simp

@[simp] theorem State.windowPost_mtc (s : State) (p : Fin 8) : (s.windowPost p).mtc = s.mtc := by
  simp only [State.windowPost]
  split <;> simp

@[simp] theorem State.windowChecks_mtc (s : State) (p : Fin 8) : (s.windowChecks p).mtc = s.mtc := by
  unfold State.windowChecks
  repeat' split
  all_goals simp

@[simp] theorem State.pointWindow_mtc (s : State) (p : Fin 8) (flow : Option Nat) : (s.pointWindow p flow).mtc = s.mtc := by
  unfold State.pointWindow
  split <;> simp [State.noteSpeed, apply_ite State.mtc]

@[simp] theorem State.clearPhaseErrors_capture (s : State) : s.clearPhaseErrors.mtc.capture = s.mtc.capture :=
  each_capture (fun s c => s.setChannel_capture c _) _ s

/-! ### Requests: a rule that keeps the capture record, and the judgements before it (R173) -/

/-- Whatever the request, the rule leaves the capture record as it was. -/
def RuleKeepsCapture (rule : Request → State → Reply) : Prop :=
  ∀ r s, (rule r s).state.mtc.capture = s.mtc.capture

@[simp] theorem State.ok_state (s : State) (d : List Byte) : (s.ok d).state = s := rfl
@[simp] theorem State.no_state (s : State) (x : Status) : (s.no x).state = s := rfl

theorem serve_capture {objects : List Nat} {rule : Request → State → Reply} (h : RuleKeepsCapture rule) (s : State) :
    (s.serve objects rule).mtc.capture = s.mtc.capture := by
  unfold State.serve
  split
  · rfl
  · exact (h _ _).trans (by simp)

theorem ruleKeepsCapture_action {fits : List Byte → Bool} {rule : Request → State → Reply} (h : RuleKeepsCapture rule) :
    RuleKeepsCapture (action fits rule) := by
  intro r s
  unfold action
  split
  · rfl
  · split
    · exact h r s
    · rfl

theorem ruleKeepsCapture_table {fitsRead fitsWrite : List Byte → Bool} {read write : Request → State → Reply}
    (hr : RuleKeepsCapture read) (hw : RuleKeepsCapture write) :
    RuleKeepsCapture (table fitsRead fitsWrite read write) := by
  intro r s
  unfold table
  split
  · split
    · exact hr r s
    · rfl
  · split
    · exact hw r s
    · rfl
  · rfl

theorem ruleKeepsCapture_structural {fitsRead fitsWrite : List Byte → Bool} {read write : Request → State → Reply}
    (hr : RuleKeepsCapture read) (hw : RuleKeepsCapture write) :
    RuleKeepsCapture (structural fitsRead fitsWrite read write) := by
  refine ruleKeepsCapture_table hr fun r s => ?_
  split
  · rfl
  · exact hw r s

theorem ruleKeepsCapture_indexed {n : Nat} {rule : Fin n → Request → State → Reply}
    (h : ∀ i, RuleKeepsCapture (rule i)) : RuleKeepsCapture (indexed n rule) := by
  intro r s
  unfold indexed
  split
  · rfl
  · exact h _ r s

theorem ruleKeepsCapture_runRule {rule : Fin 4 → Run → Request → State → Reply}
    (h : ∀ k x, RuleKeepsCapture (rule k x)) : RuleKeepsCapture (runRule rule) := by
  refine ruleKeepsCapture_indexed fun k r s => ?_
  split
  · rfl
  · split
    · rfl
    · split
      · exact h _ _ r s
      · rfl

/-- A READ of a table's record answers and changes nothing. -/
theorem ruleKeepsCapture_read {n : Nat} (data : Fin n → State → List Byte) :
    RuleKeepsCapture (indexed n (fun i _ s => s.ok (data i s))) :=
  ruleKeepsCapture_indexed fun _ _ _ => rfl

/-! ### The rules of the tables (section 12.4) -/

theorem ruleKeepsCapture_pollWrite (e : Fin 32) : RuleKeepsCapture (pollWrite e) := by
  intro r s
  unfold pollWrite
  repeat' split
  all_goals simp

theorem ruleKeepsCapture_productWrite (p : Fin 6) : RuleKeepsCapture (productWrite p) := by
  intro r s
  unfold productWrite
  split
  · rfl
  · rw [State.ok_state, each_mtc State.refreshTemp_mtc, State.setVau_mtc]

theorem ruleKeepsCapture_tankWrite (t : Fin 8) : RuleKeepsCapture (tankWrite t) := by
  intro r s
  unfold tankWrite
  split <;> rfl

theorem strapTake_capture (r : Request) (part : Nat) (b : List Byte) (s : State) :
    (strapTake r part b s).state.mtc.capture = s.mtc.capture := by
  unfold strapTake strapApply
  repeat' split
  all_goals rfl

theorem ruleKeepsCapture_strapWrite : RuleKeepsCapture strapWrite := by
  intro r s
  simp only [strapWrite, strapFirst, strapLater]
  repeat' split
  all_goals simp [strapTake_capture]

theorem ruleKeepsCapture_strapRead (t : Fin 8) : RuleKeepsCapture (strapRead t) := by
  intro r s
  unfold strapRead
  split <;> rfl

theorem accountApply_capture (slot : Nat) (b : List Byte) (s : State) :
    (accountApply slot b s).state.mtc.capture = s.mtc.capture := by
  unfold accountApply
  repeat' split
  all_goals rfl

theorem ruleKeepsCapture_accountsWrite : RuleKeepsCapture accountsWrite := by
  intro r s
  simp only [accountsWrite]
  repeat' split
  all_goals simp [accountApply_capture]

theorem ruleKeepsCapture_accountsRead (slot : Fin 1024) : RuleKeepsCapture (accountsRead slot) := by
  intro r s
  unfold accountsRead
  repeat' split
  all_goals rfl

theorem ruleKeepsCapture_orderWrite (o : Fin 16) : RuleKeepsCapture (orderWrite o) := by
  intro r s
  unfold orderWrite
  repeat' split
  all_goals rfl

theorem ruleKeepsCapture_spillWrite (i : Fin 8) : RuleKeepsCapture (spillWrite i) := by
  intro r s
  unfold spillWrite
  split <;> simp

theorem ruleKeepsCapture_sumpWrite (k : Fin 4) : RuleKeepsCapture (sumpWrite k) := by
  intro r s
  unfold sumpWrite
  split <;> simp

theorem ruleKeepsCapture_paramWrite : RuleKeepsCapture paramWrite := by
  intro r s
  unfold paramWrite
  repeat' split
  all_goals simp

theorem ruleKeepsCapture_paramRead : RuleKeepsCapture paramRead := by
  intro r s
  unfold paramRead
  split <;> rfl

theorem ruleKeepsCapture_runsWrite (k : Fin 4) : RuleKeepsCapture (runsWrite k) := by
  intro r s
  unfold runsWrite
  repeat' split
  all_goals rfl

theorem ruleKeepsCapture_pointWrite (p : Fin 8) : RuleKeepsCapture (pointWrite p) := by
  intro r s
  unfold pointWrite
  split <;> rfl

theorem ruleKeepsCapture_pumpWrite (k : Fin 4) : RuleKeepsCapture (pumpWrite k) := by
  intro r s
  unfold pumpWrite
  split <;> rfl

/-- A channel's record is rewritten; the capture record of its channel is not (R38, R50). -/
theorem ruleKeepsCapture_channelWrite (c : Fin 8) : RuleKeepsCapture (channelWrite c) := by
  intro r s
  unfold channelWrite
  split <;> rfl

theorem ruleKeepsCapture_classifierWrite (e : Fin 32) : RuleKeepsCapture (classifierWrite e) := by
  intro r s
  unfold classifierWrite
  split <;> rfl

theorem ruleKeepsCapture_classWrite (c : Fin 16) : RuleKeepsCapture (classWrite c) := by
  intro r s
  unfold classWrite
  split <;> rfl

theorem ruleKeepsCapture_tableRule : RuleKeepsCapture tableRule := by
  intro r s
  generalize h : tableRule r = rule
  unfold tableRule at h
  split at h <;> subst h
  · exact ruleKeepsCapture_structural (ruleKeepsCapture_read _)
      (ruleKeepsCapture_indexed ruleKeepsCapture_pointWrite) r s
  · exact ruleKeepsCapture_structural (ruleKeepsCapture_read _)
      (ruleKeepsCapture_indexed ruleKeepsCapture_pumpWrite) r s
  · exact ruleKeepsCapture_structural (ruleKeepsCapture_read _)
      (ruleKeepsCapture_indexed ruleKeepsCapture_channelWrite) r s
  · exact ruleKeepsCapture_table (ruleKeepsCapture_read _)
      (ruleKeepsCapture_indexed ruleKeepsCapture_classifierWrite) r s
  · exact ruleKeepsCapture_table (ruleKeepsCapture_read _)
      (ruleKeepsCapture_indexed ruleKeepsCapture_classWrite) r s

/-! ### The rules of the actions (section 12.4) -/

theorem ruleKeepsCapture_commission : RuleKeepsCapture commission := by
  intro r s
  unfold commission
  repeat' split
  all_goals simp

theorem ruleKeepsCapture_decommission : RuleKeepsCapture decommission := by
  intro r s
  unfold decommission
  repeat' split
  all_goals simp

theorem ruleKeepsCapture_timeSet : RuleKeepsCapture timeSet := fun _ _ => rfl

theorem ruleKeepsCapture_shiftClose : RuleKeepsCapture shiftClose := fun _ _ => rfl

theorem ruleKeepsCapture_stockSet (t : Fin 8) : RuleKeepsCapture (stockSet t) := by
  intro r s
  simp only [stockSet]
  repeat' split
  all_goals simp

theorem ruleKeepsCapture_reconcile (t : Fin 8) : RuleKeepsCapture (reconcile t) := by
  intro r s
  unfold reconcile
  split <;> rfl

theorem ruleKeepsCapture_authoriseRule (p : Fin 8) : RuleKeepsCapture (authoriseRule p) := by
  intro r s
  unfold authoriseRule
  split <;> simp

theorem ruleKeepsCapture_cancel (p : Fin 8) : RuleKeepsCapture (cancel p) := by
  intro r s
  unfold cancel
  split <;> simp

theorem ruleKeepsCapture_pointEnable (p : Fin 8) : RuleKeepsCapture (pointEnable p) := by
  intro r s
  unfold pointEnable
  split <;> simp

theorem ruleKeepsCapture_pointDisable (p : Fin 8) : RuleKeepsCapture (pointDisable p) := by
  intro r s
  unfold pointDisable
  split <;> simp

theorem ruleKeepsCapture_runLoad (k : Fin 4) : RuleKeepsCapture (runLoad k) := by
  intro r s
  unfold runLoad
  repeat' split
  all_goals rfl

theorem ruleKeepsCapture_runAppend (k : Fin 4) (x : Run) : RuleKeepsCapture (runAppend k x) := by
  intro r s
  unfold runAppend
  repeat' split
  all_goals rfl

theorem ruleKeepsCapture_runClearPause (k : Fin 4) (x : Run) : RuleKeepsCapture (runClearPause k x) := by
  intro r s
  unfold runClearPause
  repeat' split
  all_goals rfl

theorem ruleKeepsCapture_runResume (k : Fin 4) (x : Run) : RuleKeepsCapture (runResume k x) := by
  intro r s
  unfold runResume
  split <;> simp

theorem ruleKeepsCapture_runRetry (k : Fin 4) (x : Run) : RuleKeepsCapture (runRetry k x) := by
  intro r s
  unfold runRetry
  split <;> simp

theorem ruleKeepsCapture_runAbandon (k : Fin 4) (x : Run) : RuleKeepsCapture (runAbandon k x) := by
  intro r s
  unfold runAbandon
  split <;> simp

theorem ruleKeepsCapture_journalRead : RuleKeepsCapture journalRead := by
  intro r s
  unfold journalRead
  split <;> rfl

theorem ruleKeepsCapture_journalRelease : RuleKeepsCapture journalRelease := by
  intro r s
  simp [journalRelease]

theorem ruleKeepsCapture_eventMask : RuleKeepsCapture eventMask := by
  intro r s
  unfold eventMask
  split
  · rfl
  · rw [State.ok_state, each_mtc (State.groupPending_mtc _), State.setJev_mtc]

theorem ruleKeepsCapture_eventPendingRead : RuleKeepsCapture eventPendingRead := fun _ _ => rfl

theorem ruleKeepsCapture_countersRead : RuleKeepsCapture countersRead := by
  intro r s
  unfold countersRead
  split <;> simp

theorem ruleKeepsCapture_shutdownClear : RuleKeepsCapture shutdownClear := by
  intro r s
  simp [shutdownClear]

theorem ruleKeepsCapture_siteStop : RuleKeepsCapture siteStop := by
  intro r s
  unfold siteStop
  split <;> simp

theorem ruleKeepsCapture_hornSilence : RuleKeepsCapture hornSilence := by
  intro r s
  unfold hornSilence
  split <;> rfl

/-- PROVER_ARM leaves the capture record (R50). -/
theorem ruleKeepsCapture_proverArm : RuleKeepsCapture proverArm := by
  intro r s
  unfold proverArm
  split <;> rfl

theorem ruleKeepsCapture_stationRearm : RuleKeepsCapture stationRearm := by
  intro r s
  unfold stationRearm
  repeat' split
  all_goals simp

theorem ruleKeepsCapture_accountFind : RuleKeepsCapture accountFind := by
  intro r s
  unfold accountFind
  repeat' split
  all_goals rfl

theorem ruleKeepsCapture_accountRemove (slot : Fin 1024) : RuleKeepsCapture (accountRemove slot) := by
  intro r s
  unfold accountRemove
  repeat' split
  all_goals rfl

theorem ruleKeepsCapture_softReset : RuleKeepsCapture softReset := fun _ _ => rfl

theorem ruleKeepsCapture_statusRead : RuleKeepsCapture statusRead := fun _ _ => rfl

/-! ### Commands -/

/-- Where the command goes on to a next state, the capture record is as it was. -/
def KeepsCapture (s : State) (x : Result) : Prop := ∀ t, x = .next t → t.mtc.capture = s.mtc.capture

@[simp] theorem keepsCapture_next {s t : State} :
    KeepsCapture s (.next t) ↔ t.mtc.capture = s.mtc.capture := by
  simp [KeepsCapture]

@[simp] theorem keepsCapture_done {s t : State} : KeepsCapture s t.done ↔ t.mtc.capture = s.mtc.capture := by
  simp [State.done]

theorem keepsCapture_serve {objects : List Nat} {rule : Request → State → Reply} (h : RuleKeepsCapture rule)
    (s : State) : KeepsCapture s (.next (s.serve objects rule)) :=
  keepsCapture_next.2 (serve_capture h s)

theorem keepsCapture_action {objects : List Nat} {fits : List Byte → Bool} {rule : Request → State → Reply}
    (h : RuleKeepsCapture rule) (s : State) : KeepsCapture s (.next (s.serve objects (action fits rule))) :=
  keepsCapture_serve (ruleKeepsCapture_action h) s

theorem keepsCapture_serveDone {objects : List Nat} {rule : Request → State → Reply} (h : RuleKeepsCapture rule)
    (s : State) : KeepsCapture s (s.serve objects rule).done :=
  keepsCapture_done.2 (serve_capture h s)

/-! #### The ports and the segment -/

theorem execSiteFrameEnd_keepsCapture (f : Frame) (e : Bool) (s : State) : KeepsCapture s (execSiteFrameEnd f e s) := by
  unfold execSiteFrameEnd
  split <;> simp

theorem execSiteFrameRouted_keepsCapture (s : State) : KeepsCapture s (execSiteFrameRouted s) := by
  unfold execSiteFrameRouted
  repeat' split
  all_goals simp

theorem execFieldFrameEnd_keepsCapture (f : Frame) (e : Bool) (s : State) : KeepsCapture s (execFieldFrameEnd f e s) := by
  unfold execFieldFrameEnd
  split
  · simp
  · dsimp only
    split <;> simp

theorem execFieldFrameTaken_keepsCapture (s : State) : KeepsCapture s (execFieldFrameTaken s) := by
  unfold execFieldFrameTaken
  split
  · simp
  · dsimp only
    split <;> simp

theorem execSiteFrameSent_keepsCapture (s : State) : KeepsCapture s (execSiteFrameSent s) := by
  unfold execSiteFrameSent
  split <;> simp

theorem execEventMoved_keepsCapture (s : State) : KeepsCapture s (execEventMoved s) := by
  unfold execEventMoved
  repeat' split
  all_goals simp

theorem execSegmentGrant_keepsCapture (s : State) : KeepsCapture s (execSegmentGrant s) := by
  unfold execSegmentGrant
  repeat' split
  all_goals simp

theorem execForwardFrameSent_keepsCapture (s : State) : KeepsCapture s (execForwardFrameSent s) := by
  unfold execForwardFrameSent
  split <;> simp

theorem execPollFrameSent_keepsCapture (s : State) : KeepsCapture s (execPollFrameSent s) := by
  unfold execPollFrameSent
  repeat' split
  all_goals simp

theorem execReplyWindowTimeout_keepsCapture (s : State) : KeepsCapture s (execReplyWindowTimeout s) := by
  unfold execReplyWindowTimeout
  repeat' split
  all_goals simp

theorem execEntryDue_keepsCapture (e : Fin 32) (s : State) : KeepsCapture s (execEntryDue e s) := by
  unfold execEntryDue
  repeat' split
  all_goals simp

theorem execStationDataStale_keepsCapture (e : Fin 32) (s : State) : KeepsCapture s (execStationDataStale e s) := by
  unfold execStationDataStale
  repeat' split
  all_goals simp

theorem execForwardFrameAged_keepsCapture (s : State) : KeepsCapture s (execForwardFrameAged s) := by
  simp [execForwardFrameAged]

theorem execFieldFrameStart_keepsCapture (s : State) : KeepsCapture s (execFieldFrameStart s) := by
  unfold execFieldFrameStart
  split <;> simp

/-! #### Loans -/

theorem execLrqRise_keepsCapture (s : State) : KeepsCapture s (execLrqRise s) := by
  simp [execLrqRise]

theorem execLrqFall_keepsCapture (s : State) : KeepsCapture s (execLrqFall s) := by
  simp only [execLrqFall]
  split <;> simp

theorem execLoanLimitReached_keepsCapture (s : State) : KeepsCapture s (execLoanLimitReached s) := by
  simp only [execLoanLimitReached]
  split <;> simp

theorem execRecallAgeReached_keepsCapture (e : Fin 32) (s : State) : KeepsCapture s (execRecallAgeReached e s) := by
  unfold execRecallAgeReached
  repeat' split
  all_goals simp

theorem execRecallTimeout_keepsCapture (s : State) : KeepsCapture s (execRecallTimeout s) := by
  unfold execRecallTimeout
  repeat' split
  all_goals simp

theorem execDeliveryAnswerSend_keepsCapture (s : State) : KeepsCapture s (execDeliveryAnswerSend s) := by
  unfold execDeliveryAnswerSend
  repeat' split
  all_goals simp

/-! #### Meter channels -/

theorem execMeterCount_keepsCapture (c : Fin 8) (i : MeterInput) (s : State) : KeepsCapture s (execMeterCount c i s) := by
  simp only [execMeterCount]
  split <;> simp

theorem execMeterPhaseError_keepsCapture (c : Fin 8) (s : State) : KeepsCapture s (execMeterPhaseError c s) := by
  simp only [execMeterPhaseError]
  split <;> simp

theorem execRateWindowClose_keepsCapture (c : Fin 8) (s : State) : KeepsCapture s (execRateWindowClose c s) := by
  simp only [execRateWindowClose]
  split
  · simp [apply_ite State.mtc]
  · simp

theorem execCreepWindowBoundary_keepsCapture (s : State) : KeepsCapture s (execCreepWindowBoundary s) := by
  unfold execCreepWindowBoundary
  split
  · exact keepsCapture_next.2 (each_capture State.clearCreep_capture _ _)
  · simp

theorem execMeterRawInputChange_keepsCapture (c : Fin 8) (i : MeterInput) (high : Bool) (s : State) :
    KeepsCapture s (execMeterRawInputChange c i high s) := by
  simp [execMeterRawInputChange]

theorem execFilteredLevelChange_keepsCapture (c : Fin 8) (i : MeterInput) (s : State) :
    KeepsCapture s (execFilteredLevelChange c i s) := by
  simp only [execFilteredLevelChange]
  split <;> simp

theorem execProverRawInputChange_keepsCapture (x : ProverChange) (s : State) :
    KeepsCapture s (execProverRawInputChange x s) := by
  unfold execProverRawInputChange
  dsimp only
  split
  · simp
  · split <;> simp

/-! #### Timers, shutdown inputs and the clock -/

theorem execAuthTimerExpiry_keepsCapture (p : Fin 8) (s : State) : KeepsCapture s (execAuthTimerExpiry p s) := by
  unfold execAuthTimerExpiry
  repeat' split
  all_goals simp

theorem execSettleEnd_keepsCapture (p : Fin 8) (s : State) : KeepsCapture s (execSettleEnd p s) := by
  unfold execSettleEnd
  repeat' split
  all_goals simp

theorem execPanelStatusTimer_keepsCapture (p : Fin 8) (s : State) : KeepsCapture s (execPanelStatusTimer p s) := by
  unfold execPanelStatusTimer
  split <;> simp

theorem execPumpRunSecond_keepsCapture (k : Fin 4) (s : State) : KeepsCapture s (execPumpRunSecond k s) := by
  simp only [execPumpRunSecond]
  split <;> simp

theorem execSuspendTimerExpiry_keepsCapture (k : Fin 4) (s : State) : KeepsCapture s (execSuspendTimerExpiry k s) := by
  unfold execSuspendTimerExpiry
  repeat' split
  all_goals simp

theorem execSpillInputChange_keepsCapture (i : Fin 8) (high : Bool) (s : State) :
    KeepsCapture s (execSpillInputChange i high s) := by
  simp [execSpillInputChange]

theorem execSpillDebounceExpiry_keepsCapture (i : Fin 8) (s : State) : KeepsCapture s (execSpillDebounceExpiry i s) := by
  simp only [execSpillDebounceExpiry]
  repeat' split
  all_goals simp

theorem execEstopLoopChange_keepsCapture (l : Fin 2) (isOpen : Bool) (s : State) :
    KeepsCapture s (execEstopLoopChange l isOpen s) := by
  simp [execEstopLoopChange]

theorem execEstopTimerExpiry_keepsCapture (l : Fin 2) (s : State) : KeepsCapture s (execEstopTimerExpiry l s) := by
  simp only [execEstopTimerExpiry]
  repeat' split
  all_goals simp

theorem execHornPulseToggle_keepsCapture (s : State) : KeepsCapture s (execHornPulseToggle s) := by
  unfold execHornPulseToggle
  split <;> simp

theorem execLinkSilenceExpiry_keepsCapture (s : State) : KeepsCapture s (execLinkSilenceExpiry s) := by
  unfold execLinkSilenceExpiry
  repeat' split
  all_goals simp

theorem execWallClockTick_keepsCapture (s : State) : KeepsCapture s (execWallClockTick s) := by
  unfold execWallClockTick
  split <;> simp

/-- No command changes the capture record but a capture, PROVER_READ and the resets (R50 to R54). -/
theorem exec_keepsCapture {c : Instr} (edge : c ≠ .proverEdge) (read : c ≠ .proverRead) (power : c ≠ .powerOn)
    (line : c ≠ .lineReset) (soft : ∀ d, c ≠ .softResetTaken d) (s : State) : KeepsCapture s (exec c s) := by
  cases c with
  | siteFrameEnd f e => exact execSiteFrameEnd_keepsCapture f e s
  | siteFrameRouted => exact execSiteFrameRouted_keepsCapture s
  | fieldFrameEnd f e => exact execFieldFrameEnd_keepsCapture f e s
  | fieldFrameTaken => exact execFieldFrameTaken_keepsCapture s
  | siteFrameSent => exact execSiteFrameSent_keepsCapture s
  | eventMoved => exact execEventMoved_keepsCapture s
  | segmentGrant => exact execSegmentGrant_keepsCapture s
  | forwardFrameSent => exact execForwardFrameSent_keepsCapture s
  | pollFrameSent => exact execPollFrameSent_keepsCapture s
  | replyWindowTimeout => exact execReplyWindowTimeout_keepsCapture s
  | entryDue e => exact execEntryDue_keepsCapture e s
  | stationDataStale e => exact execStationDataStale_keepsCapture e s
  | forwardFrameAged => exact execForwardFrameAged_keepsCapture s
  | lrqRise => exact execLrqRise_keepsCapture s
  | lrqFall => exact execLrqFall_keepsCapture s
  | loanLimitReached => exact execLoanLimitReached_keepsCapture s
  | recallAgeReached e => exact execRecallAgeReached_keepsCapture e s
  | recallTimeout => exact execRecallTimeout_keepsCapture s
  | deliveryAnswerSend => exact execDeliveryAnswerSend_keepsCapture s
  | meterCount c i => exact execMeterCount_keepsCapture c i s
  | meterPhaseError c => exact execMeterPhaseError_keepsCapture c s
  | rateWindowClose c => exact execRateWindowClose_keepsCapture c s
  | creepWindowBoundary => exact execCreepWindowBoundary_keepsCapture s
  | proverEdge => exact absurd rfl edge
  | authTimerExpiry p => exact execAuthTimerExpiry_keepsCapture p s
  | settleEnd p => exact execSettleEnd_keepsCapture p s
  | panelStatusTimer p => exact execPanelStatusTimer_keepsCapture p s
  | pumpRunSecond k => exact execPumpRunSecond_keepsCapture k s
  | suspendTimerExpiry k => exact execSuspendTimerExpiry_keepsCapture k s
  | spillInputChange i high => exact execSpillInputChange_keepsCapture i high s
  | spillDebounceExpiry i => exact execSpillDebounceExpiry_keepsCapture i s
  | estopLoopChange l isOpen => exact execEstopLoopChange_keepsCapture l isOpen s
  | estopTimerExpiry l => exact execEstopTimerExpiry_keepsCapture l s
  | hornPulseToggle => exact execHornPulseToggle_keepsCapture s
  | linkSilenceExpiry => exact execLinkSilenceExpiry_keepsCapture s
  | wallClockTick => exact execWallClockTick_keepsCapture s
  | powerOn => exact absurd rfl power
  | lineReset => exact absurd rfl line
  | softResetTaken d => exact absurd rfl (soft d)
  | commission => exact keepsCapture_action ruleKeepsCapture_commission s
  | decommission => exact keepsCapture_action ruleKeepsCapture_decommission s
  | timeSet => exact keepsCapture_action ruleKeepsCapture_timeSet s
  | shiftClose => exact keepsCapture_action ruleKeepsCapture_shiftClose s
  | stockSet =>
    exact keepsCapture_serveDone (ruleKeepsCapture_action (ruleKeepsCapture_indexed ruleKeepsCapture_stockSet)) s
  | reconcile => exact keepsCapture_action (ruleKeepsCapture_indexed ruleKeepsCapture_reconcile) s
  | authorise => exact keepsCapture_action (ruleKeepsCapture_indexed ruleKeepsCapture_authoriseRule) s
  | cancel => exact keepsCapture_action (ruleKeepsCapture_indexed ruleKeepsCapture_cancel) s
  | pointEnable => exact keepsCapture_action (ruleKeepsCapture_indexed ruleKeepsCapture_pointEnable) s
  | pointDisable => exact keepsCapture_action (ruleKeepsCapture_indexed ruleKeepsCapture_pointDisable) s
  | runLoad => exact keepsCapture_action (ruleKeepsCapture_indexed ruleKeepsCapture_runLoad) s
  | runAppend => exact keepsCapture_action (ruleKeepsCapture_runRule ruleKeepsCapture_runAppend) s
  | runClearPause => exact keepsCapture_action (ruleKeepsCapture_runRule ruleKeepsCapture_runClearPause) s
  | runResume => exact keepsCapture_action (ruleKeepsCapture_runRule ruleKeepsCapture_runResume) s
  | runRetry => exact keepsCapture_action (ruleKeepsCapture_runRule ruleKeepsCapture_runRetry) s
  | runAbandon => exact keepsCapture_action (ruleKeepsCapture_runRule ruleKeepsCapture_runAbandon) s
  | journalRead => exact keepsCapture_action ruleKeepsCapture_journalRead s
  | journalRelease => exact keepsCapture_action ruleKeepsCapture_journalRelease s
  | eventMask => exact keepsCapture_action ruleKeepsCapture_eventMask s
  | eventPendingRead => exact keepsCapture_action ruleKeepsCapture_eventPendingRead s
  | countersRead => exact keepsCapture_action ruleKeepsCapture_countersRead s
  | shutdownClear => exact keepsCapture_action ruleKeepsCapture_shutdownClear s
  | siteStop => exact keepsCapture_action ruleKeepsCapture_siteStop s
  | hornSilence => exact keepsCapture_action ruleKeepsCapture_hornSilence s
  | proverArm => exact keepsCapture_action ruleKeepsCapture_proverArm s
  | proverRead => exact absurd rfl read
  | stationRearm => exact keepsCapture_action ruleKeepsCapture_stationRearm s
  | accountFind => exact keepsCapture_action ruleKeepsCapture_accountFind s
  | accountRemove => exact keepsCapture_action (ruleKeepsCapture_indexed ruleKeepsCapture_accountRemove) s
  | softReset => exact keepsCapture_action ruleKeepsCapture_softReset s
  | statusRead => exact keepsCapture_action ruleKeepsCapture_statusRead s
  | pollListWrite =>
    exact keepsCapture_serveDone (ruleKeepsCapture_table (ruleKeepsCapture_read _)
      (ruleKeepsCapture_indexed ruleKeepsCapture_pollWrite)) s
  | productWrite =>
    exact keepsCapture_serve (ruleKeepsCapture_structural (ruleKeepsCapture_read _)
      (ruleKeepsCapture_indexed ruleKeepsCapture_productWrite)) s
  | tankWrite =>
    exact keepsCapture_serve (ruleKeepsCapture_structural (ruleKeepsCapture_read _)
      (ruleKeepsCapture_indexed ruleKeepsCapture_tankWrite)) s
  | strappingWrite =>
    exact keepsCapture_serve (ruleKeepsCapture_table (ruleKeepsCapture_indexed ruleKeepsCapture_strapRead)
      ruleKeepsCapture_strapWrite) s
  | accountsWrite =>
    exact keepsCapture_serve (ruleKeepsCapture_table (ruleKeepsCapture_indexed ruleKeepsCapture_accountsRead)
      ruleKeepsCapture_accountsWrite) s
  | deliveryOrderWrite =>
    exact keepsCapture_serve (ruleKeepsCapture_table (ruleKeepsCapture_read _)
      (ruleKeepsCapture_indexed ruleKeepsCapture_orderWrite)) s
  | spillInputWrite =>
    exact keepsCapture_serve (ruleKeepsCapture_table (ruleKeepsCapture_read _)
      (ruleKeepsCapture_indexed ruleKeepsCapture_spillWrite)) s
  | sumpWrite =>
    exact keepsCapture_serve (ruleKeepsCapture_table (ruleKeepsCapture_read _)
      (ruleKeepsCapture_indexed ruleKeepsCapture_sumpWrite)) s
  | bayParameterWrite =>
    exact keepsCapture_serve (ruleKeepsCapture_table ruleKeepsCapture_paramRead ruleKeepsCapture_paramWrite) s
  | runsWrite =>
    exact keepsCapture_serve (ruleKeepsCapture_table (ruleKeepsCapture_read _)
      (ruleKeepsCapture_indexed ruleKeepsCapture_runsWrite)) s
  | tableWrite => exact keepsCapture_serve ruleKeepsCapture_tableRule s
  | fieldFrameStart => exact execFieldFrameStart_keepsCapture s
  | meterRawInputChange c i high => exact execMeterRawInputChange_keepsCapture c i high s
  | filteredLevelChange c i => exact execFilteredLevelChange_keepsCapture c i s
  | proverRawInputChange x => exact execProverRawInputChange_keepsCapture x s

/-! ### The prover (R50, R51, R54) -/

/-- A capture while the record is full marks it and keeps it (R51). -/
theorem captureCount_of_full {s : State} {r : Capture} (c : Fin 8) (h : s.mtc.capture = some r) :
    (s.captureCount c).mtc.capture = some { r with overrun := true } := by
  simp [State.captureCount, h]

theorem execProverEdge_of_full {s t : State} {r : Capture} (h : s.mtc.capture = some r)
    (ht : execProverEdge s = .next t) : t.mtc.capture = some r ∨ t.mtc.capture = some { r with overrun := true } := by
  simp only [execProverEdge] at ht
  split at ht
  · split at ht <;> cases ht
    · exact .inl h
    · exact .inr (captureCount_of_full _ h)
  · cases ht
    exact .inl h

theorem armedAt_of_lt {i : Nat} (h : i < 8) : armedAt i = some (some ⟨i, h⟩) := by
  rw [armedAt, if_neg (by omega)]
  simp [toFin, h]

theorem armedAt_none : armedAt 0xFFFF = some none := rfl

theorem armedAt_of_ge {i : Nat} (h : 8 ≤ i) (hi : i ≠ 0xFFFF) : armedAt i = none := by
  rw [armedAt, if_neg hi]
  simp [toFin, Nat.not_lt.2 h]

/-- PROVER_ARM with an index that names a channel, or none, arms what it names (R50). -/
theorem serves_proverArm {s : State} {f : Frame} {rest : List Frame} {i : Nat} {c : Option (Fin 8)}
    (h : Requested s f rest 3 0x38 i []) (hc : armedAt i = some c) :
    Serves .proverArm s f rest 0 [] [.mtc] (fun t => t.mtc = { s.mtc with armed := c }) := by
  refine serves_of_rule (status := .ok) ((s.taken rest).setMtc { s.mtc with armed := c }) h rfl rfl (fun echo => ?_) rfl
    (setMtc_only _ _) (fun _ _ => rfl)
  simp [action, askedRequest, exactly, proverArm, hc, State.ok]

/-- PROVER_ARM with any other index is refused (R50). -/
theorem serves_proverArm_refused {s : State} {f : Frame} {rest : List Frame} {i : Nat}
    (h : Requested s f rest 3 0x38 i []) (hc : armedAt i = none) :
    Serves .proverArm s f rest 2 [] [] (fun _ => True) := by
  refine serves_unchanged (status := .badParam) h rfl rfl (fun echo => ?_)
  simp [action, askedRequest, exactly, proverArm, hc, State.no]

/-- Only a capture, PROVER_READ and the resets reach the record, and a capture keeps what stands in it (R51). -/
theorem capture_stays {c : Instr} {s t : State} {r : Capture} (h : s.mtc.capture = some r) (read : c ≠ .proverRead)
    (power : c ≠ .powerOn) (line : c ≠ .lineReset) (soft : ∀ d, c ≠ .softResetTaken d) (ht : exec c s = .next t) :
    t.mtc.capture = some r ∨ t.mtc.capture = some { r with overrun := true } := by
  by_cases edge : c = .proverEdge
  · subst edge
    exact execProverEdge_of_full h ht
  · exact .inl ((exec_keepsCapture edge read power line soft s t ht).trans h)

theorem armed_softResetTaken {s t : State} {d : Nat} (h : s.mgt.softReset = some 0)
    (ht : exec (.softResetTaken d) s = .next t) : t.mtc.armed = none := by
  have e : exec (.softResetTaken d) s = .next (s.softResetBlocks d).afterSoftReset := if_pos h
  cases e.symm.trans ht
  simp [State.softResetBlocks, Mtc.softReset, Reset.mtc]

/-- Settles O57: the rule of PROVER_ARM, the capture record over every command, and the three resets. -/
theorem proverIsArmed : Obligations.ProverIsArmed := by
  refine ⟨fun s f rest i h => ⟨fun hi => ?_, ?_, fun hi hn => ?_⟩, ?_, fun s t => ⟨?_, ?_, ?_⟩⟩
  · exact serves_proverArm h (armedAt_of_lt hi)
  · rintro rfl
    exact serves_proverArm h armedAt_none
  · exact serves_proverArm_refused h (armedAt_of_ge hi hn)
  · intro c s t r hr read power line soft ht
    rcases capture_stays hr read power line soft ht with hq | hq <;> exact ⟨_, hq, rfl, rfl, rfl⟩
  · rintro ⟨⟩
    rfl
  · rintro ⟨⟩
    rfl
  · exact fun d => armed_softResetTaken

end Sys2Proof.Machine
end

section
/-! Strapping (R67, R68): a well-formed table rises from each point to the next, and the volume of a level is read from
the points at and after the last one that the level reaches. -/

namespace Sys2Proof.Machine

/-! ### The rounded quotient of R55 -/

theorem roundNat_of_pos {b : Nat} (a : Nat) (hb : 0 < b) : roundNat a b = (2 * a + b) / (2 * b) :=
  if_neg (Nat.ne_of_gt hb)

@[simp] theorem roundNat_zero (b : Nat) : roundNat 0 b = 0 := by
  rcases b.eq_zero_or_pos with rfl | hb
  · rfl
  · rw [roundNat_of_pos 0 hb]
    exact Nat.div_eq_of_lt (by omega)

theorem roundNat_mul_self {b : Nat} (v : Nat) (hb : 0 < b) : roundNat (v * b) b = v := by
  have parts : 2 * (v * b) + b = b + 2 * b * v := by
    rw [Nat.add_comm, Nat.mul_comm v b, Nat.mul_assoc]
  rw [roundNat_of_pos _ hb, parts, Nat.add_mul_div_left _ _ (by omega), Nat.div_eq_of_lt (by omega), Nat.zero_add]

theorem roundNat_mono {a c : Nat} (b : Nat) (h : a ≤ c) : roundNat a b ≤ roundNat c b := by
  rcases b.eq_zero_or_pos with rfl | hb
  · exact Nat.le_refl _
  · rw [roundNat_of_pos a hb, roundNat_of_pos c hb]
    exact Nat.div_le_div_right (by omega)

/-- A share of `v` that is at most the whole stays at most `v` when it is rounded. -/
theorem roundNat_mul_le {v x b : Nat} (hb : 0 < b) (h : x ≤ b) : roundNat (v * x) b ≤ v :=
  calc roundNat (v * x) b ≤ roundNat (v * b) b := roundNat_mono b (Nat.mul_le_mul_left v h)
    _ = v := roundNat_mul_self v hb

/-! ### Well-formed tables (R67) -/

/-- Each point of a table lies above the one before it, with a volume that is no smaller. -/
def StrapRises : List StrapPoint → Prop
  | p :: q :: rest => (p.level < q.level ∧ p.volume ≤ q.volume) ∧ StrapRises (q :: rest)
  | _ => True

theorem strapRises_cons_cons {p q : StrapPoint} {rest : List StrapPoint} :
    StrapRises (p :: q :: rest) ↔ (p.level < q.level ∧ p.volume ≤ q.volume) ∧ StrapRises (q :: rest) :=
  Iff.rfl

theorem StrapRises.tail {p : StrapPoint} {ps : List StrapPoint} (h : StrapRises (p :: ps)) : StrapRises ps := by
  cases ps with
  | nil => trivial
  | cons q rest => exact (strapRises_cons_cons.1 h).2

theorem StrapRises.of_append {pre ps : List StrapPoint} (h : StrapRises (pre ++ ps)) : StrapRises ps := by
  induction pre with
  | nil => exact h
  | cons p pre ih => exact ih h.tail

theorem strapRises_of_noFault {ps : List StrapPoint} {i j : Nat} (hl : firstLevelFault i ps = none)
    (hv : firstVolumeFault j ps = none) : StrapRises ps := by
  induction ps generalizing i j with
  | nil => trivial
  | cons p ps ih =>
    cases ps with
    | nil => trivial
    | cons q rest =>
      simp only [firstLevelFault, firstVolumeFault] at hl hv
      split at hl
      · cases hl
      split at hv
      · cases hv
      exact strapRises_cons_cons.2 ⟨by omega, ih hl hv⟩

theorem strapRises_of_wellFormed {ps : List StrapPoint} (h : wellFormedStrap (some ps) = true) : StrapRises ps := by
  simp only [wellFormedStrap, Bool.and_eq_true, Option.isNone_iff_eq_none] at h
  obtain ⟨⟨-, hl⟩, hv⟩ := h
  exact strapRises_of_noFault hl hv

/-- The levels rise along the whole table, not only from a point to the next. -/
theorem StrapRises.level_lt {pre rest : List StrapPoint} {a p : StrapPoint} (h : StrapRises (a :: pre ++ p :: rest)) :
    a.level < p.level := by
  induction pre generalizing a with
  | nil => exact (strapRises_cons_cons.1 h).1.1
  | cons b pre ih =>
    obtain ⟨⟨hab, -⟩, hb⟩ := strapRises_cons_cons.1 h
    exact Nat.lt_trans hab (ih hb)

/-! ### Interpolation (R68) -/

/-- At a level up to the second point's. -/
theorem strapFrom_of_lt {p q : StrapPoint} {l : Nat} (rest : List StrapPoint) (h : l < q.level) :
    strapFrom l (p :: q :: rest) =
      p.volume + roundNat ((q.volume - p.volume) * (l - p.level)) (q.level - p.level) :=
  if_pos h

/-- From the second point's level on the first point has no part. -/
theorem strapFrom_of_le {p q : StrapPoint} {l : Nat} (rest : List StrapPoint) (h : q.level ≤ l) :
    strapFrom l (p :: q :: rest) = strapFrom l (q :: rest) :=
  if_neg (Nat.not_lt.2 h)

/-- The points before one that the level reaches have no part in its volume. -/
theorem strapFrom_append {pre rest : List StrapPoint} {p : StrapPoint} {l : Nat} (h : StrapRises (pre ++ p :: rest))
    (hp : p.level ≤ l) : strapFrom l (pre ++ p :: rest) = strapFrom l (p :: rest) := by
  induction pre with
  | nil => rfl
  | cons a pre ih =>
    cases pre with
    | nil => exact strapFrom_of_le rest hp
    | cons b pre =>
      have tail : StrapRises (b :: pre ++ p :: rest) := (strapRises_cons_cons.1 h).2
      calc strapFrom l (a :: b :: pre ++ p :: rest) = strapFrom l (b :: pre ++ p :: rest) :=
            strapFrom_of_le _ (Nat.le_trans (Nat.le_of_lt tail.level_lt) hp)
        _ = strapFrom l (p :: rest) := ih tail

/-- At or below the first level of a table in order the volume is the first. -/
theorem strapFrom_of_le_head {p : StrapPoint} {rest : List StrapPoint} {l : Nat} (h : StrapRises (p :: rest))
    (hl : l ≤ p.level) : strapFrom l (p :: rest) = p.volume := by
  cases rest with
  | nil => rfl
  | cons q rest =>
    obtain ⟨⟨hpq, -⟩, -⟩ := strapRises_cons_cons.1 h
    simp [strapFrom_of_lt rest (Nat.lt_of_le_of_lt hl hpq), Nat.sub_eq_zero_of_le hl]

/-- Between two points the volume stays at or below that of the upper point. -/
theorem strapFrom_le_next {p q : StrapPoint} {rest : List StrapPoint} {l : Nat} (h : StrapRises (p :: q :: rest))
    (hl : l < q.level) : strapFrom l (p :: q :: rest) ≤ q.volume := by
  obtain ⟨⟨hpq, hv⟩, -⟩ := strapRises_cons_cons.1 h
  have share : roundNat ((q.volume - p.volume) * (l - p.level)) (q.level - p.level) ≤ q.volume - p.volume :=
    roundNat_mul_le (by omega) (by omega)
  rw [strapFrom_of_lt rest hl]
  omega

theorem head_le_strapFrom {p : StrapPoint} {rest : List StrapPoint} (l : Nat) (h : StrapRises (p :: rest)) :
    p.volume ≤ strapFrom l (p :: rest) := by
  induction rest generalizing p with
  | nil => exact Nat.le_refl _
  | cons q rest ih =>
    obtain ⟨⟨-, hv⟩, hq⟩ := strapRises_cons_cons.1 h
    rcases Nat.lt_or_ge l q.level with hl | hl
    · rw [strapFrom_of_lt rest hl]
      exact Nat.le_add_right ..
    · rw [strapFrom_of_le rest hl]
      exact Nat.le_trans hv (ih hq)

theorem strapFrom_mono {ps : List StrapPoint} {l m : Nat} (h : StrapRises ps) (hlm : l ≤ m) :
    strapFrom l ps ≤ strapFrom m ps := by
  induction ps with
  | nil => exact Nat.le_refl _
  | cons p ps ih =>
    cases ps with
    | nil => exact Nat.le_refl _
    | cons q rest =>
      have hq : StrapRises (q :: rest) := (strapRises_cons_cons.1 h).2
      rcases Nat.lt_or_ge m q.level with hm | hm
      · rw [strapFrom_of_lt rest hm, strapFrom_of_lt rest (Nat.lt_of_le_of_lt hlm hm)]
        exact Nat.add_le_add_left (roundNat_mono _ (Nat.mul_le_mul_left _ (by omega))) _
      · rw [strapFrom_of_le rest hm]
        rcases Nat.lt_or_ge l q.level with hl | hl
        · exact Nat.le_trans (strapFrom_le_next h hl) (head_le_strapFrom m hq)
        · rw [strapFrom_of_le rest hl]
          exact ih hq

/-! ### The volume of a level -/

/-- Over a table in order the search alone gives the first volume below the table. -/
theorem strapVolume_eq_strapFrom {ps : List StrapPoint} (h : StrapRises ps) (l : Nat) :
    strapVolume ps l = strapFrom l ps := by
  cases ps with
  | nil => rfl
  | cons p rest =>
    rcases Nat.lt_or_ge l p.level with hl | hl
    · exact (if_pos hl).trans (strapFrom_of_le_head h (Nat.le_of_lt hl)).symm
    · exact if_neg (Nat.not_lt.2 hl)

theorem strapVolume_mono {ps : List StrapPoint} {l m : Nat} (h : StrapRises ps) (hlm : l ≤ m) :
    strapVolume ps l ≤ strapVolume ps m := by
  rw [strapVolume_eq_strapFrom h, strapVolume_eq_strapFrom h]
  exact strapFrom_mono h hlm

theorem strapVolume_at_point {ps : List StrapPoint} {p : StrapPoint} (h : StrapRises ps) (hp : p ∈ ps) :
    strapVolume ps p.level = p.volume := by
  obtain ⟨pre, rest, rfl⟩ := List.append_of_mem hp
  rw [strapVolume_eq_strapFrom h, strapFrom_append h (Nat.le_refl _), strapFrom_of_le_head h.of_append (Nat.le_refl _)]

/-- Two points that follow each other cut a table in two. -/
theorem strap_cut {ps : List StrapPoint} {i : Nat} {p q : StrapPoint} (hp : ps[i]? = some p)
    (hq : ps[i + 1]? = some q) : ∃ pre rest, ps = pre ++ p :: q :: rest := by
  obtain ⟨hi, rfl⟩ := List.getElem?_eq_some_iff.1 hp
  obtain ⟨hj, rfl⟩ := List.getElem?_eq_some_iff.1 hq
  refine ⟨ps.take i, ps.drop (i + 1 + 1), ?_⟩
  rw [← List.drop_eq_getElem_cons hj, ← List.drop_eq_getElem_cons hi, List.take_append_drop]

theorem strapVolume_between {pre rest : List StrapPoint} {l : Nat} {p q : StrapPoint}
    (h : StrapRises (pre ++ p :: q :: rest)) (hl : p.level ≤ l) (hlq : l < q.level) :
    strapVolume (pre ++ p :: q :: rest) l =
      p.volume + roundNat ((q.volume - p.volume) * (l - p.level)) (q.level - p.level) :=
  calc strapVolume (pre ++ p :: q :: rest) l = strapFrom l (pre ++ p :: q :: rest) := strapVolume_eq_strapFrom h l
    _ = strapFrom l (p :: q :: rest) := strapFrom_append h hl
    _ = _ := strapFrom_of_lt rest hlq

/-- The interpolation of R68 holds at the upper level of an interval too: it gives the upper point's volume. -/
theorem strapVolume_at_next {pre rest : List StrapPoint} {p q : StrapPoint}
    (h : StrapRises (pre ++ p :: q :: rest)) :
    strapVolume (pre ++ p :: q :: rest) q.level =
      p.volume + roundNat ((q.volume - p.volume) * (q.level - p.level)) (q.level - p.level) := by
  obtain ⟨⟨hlevel, hvolume⟩, -⟩ := strapRises_cons_cons.1 h.of_append
  have hq : q ∈ pre ++ p :: q :: rest := List.mem_append_right pre (.tail p (.head rest))
  rw [strapVolume_at_point h hq, roundNat_mul_self _ (by omega)]
  omega

theorem strapVolume_of_lt_first {ps : List StrapPoint} {first : StrapPoint} {l : Nat} (hf : ps.head? = some first)
    (hl : l < first.level) : strapVolume ps l = first.volume := by
  obtain ⟨rest, rfl⟩ := List.head?_eq_some_iff.1 hf
  exact if_pos hl

theorem strapVolume_of_last_le {ps : List StrapPoint} {last : StrapPoint} {l : Nat} (h : StrapRises ps)
    (he : ps.getLast? = some last) (hl : last.level ≤ l) : strapVolume ps l = last.volume := by
  obtain ⟨pre, rfl⟩ := List.getLast?_eq_some_iff.1 he
  rw [strapVolume_eq_strapFrom h, strapFrom_append h hl]
  rfl

theorem first_le_strapVolume {ps : List StrapPoint} {first : StrapPoint} (h : StrapRises ps)
    (hf : ps.head? = some first) (l : Nat) : first.volume ≤ strapVolume ps l := by
  obtain ⟨rest, rfl⟩ := List.head?_eq_some_iff.1 hf
  rw [strapVolume_eq_strapFrom h]
  exact head_le_strapFrom l h

theorem strapVolume_le_last {ps : List StrapPoint} {last : StrapPoint} (h : StrapRises ps)
    (he : ps.getLast? = some last) (l : Nat) : strapVolume ps l ≤ last.volume :=
  calc strapVolume ps l ≤ strapVolume ps (max l last.level) := strapVolume_mono h (Nat.le_max_left ..)
    _ = last.volume := strapVolume_of_last_le h he (Nat.le_max_right ..)

theorem strapClamps_iff {ps : List StrapPoint} {first last : StrapPoint} (hf : ps.head? = some first)
    (he : ps.getLast? = some last) (l : Nat) : strapClamps ps l = true ↔ l < first.level ∨ last.level < l := by
  simp [strapClamps, firstLevel, lastLevelOf, hf, he]

/-- Settles O35: a well-formed table rises, and over a rising table the search finds the interval of the level. -/
theorem strappingInterpolates : Obligations.StrappingInterpolates := by
  intro ps first last l hf he wf
  have rises : StrapRises ps := strapRises_of_wellFormed wf
  refine ⟨fun i p q hp hq hl => ?_, fun p hp => strapVolume_at_point rises hp, strapVolume_of_lt_first hf,
    fun h => strapVolume_of_last_le rises he (Nat.le_of_lt h), strapClamps_iff hf he l, first_le_strapVolume rises hf l,
    strapVolume_le_last rises he l, fun m => strapVolume_mono rises⟩
  obtain ⟨pre, rest, rfl⟩ := strap_cut hp hq
  obtain ⟨⟨hlevel, -⟩, -⟩ := strapRises_cons_cons.1 rises.of_append
  rw [← roundNat_of_pos _ (by omega)]
  obtain ⟨hpl, hlq | ⟨rfl, -⟩⟩ := hl
  · exact strapVolume_between rises hpl hlq
  · exact strapVolume_at_next rises

end Sys2Proof.Machine
end

section
/-! Open work goes on (R93, R163): what every operation but a point's own completion and a reset leaves of a point that
has a transaction open, and of the journal. An operation is taken up by one lemma, which carries the relation from the
state before it to the state after it. -/

namespace Sys2Proof.Machine

/-! ### What becomes of an open point, and of the journal -/

/-- The moves of an open point with the end cause of its context (R93): a running point may go on to run, an end takes
it to STOPPING with a cause, and a STOPPING point stands with the cause it has. -/
inductive EndStep : PointState → Option EndCause → PointState → Option EndCause → Prop where
  | runs {a b : PointState} {c : Option EndCause} (ha : a.running = true) (hb : b.running = true) : EndStep a c b c
  | ends {a : PointState} {c : Option EndCause} {e : EndCause} (ha : a.running = true) :
    EndStep a c .stopping (some e)
  | stands {c : Option EndCause} : EndStep .stopping c .stopping c

theorem PointState.isOpen_of_running {a : PointState} (h : a.running = true) : a.isOpen = true := by
  cases a <;> simp_all [PointState.running, PointState.isOpen]

theorem PointState.running_or_stopping {a : PointState} (h : a.isOpen = true) : a.running = true ∨ a = .stopping := by
  cases a <;> simp_all [PointState.running, PointState.isOpen]

theorem EndStep.refl {a : PointState} {c : Option EndCause} (h : a.isOpen = true) : EndStep a c a c := by
  rcases a.running_or_stopping h with hr | rfl
  · exact .runs hr hr
  · exact .stands

theorem EndStep.isOpen {a b : PointState} {c d : Option EndCause} (h : EndStep a c b d) : b.isOpen = true := by
  cases h with
  | runs _ hb => exact b.isOpen_of_running hb
  | ends => rfl
  | stands => rfl

/-- Once an end is taken, no later move changes the point or its cause. -/
theorem EndStep.of_stopping {b : PointState} {c d : Option EndCause} (h : EndStep .stopping c b d) :
    b = .stopping ∧ d = c := by
  cases h with
  | runs ha => cases ha
  | ends ha => cases ha
  | stands => exact ⟨rfl, rfl⟩

/-- A running point runs on without a cause of its own, or takes an end with one. -/
theorem EndStep.of_running {a b : PointState} {c d : Option EndCause} (h : EndStep a c b d) (ha : a.running = true) :
    (b.running = true ∧ d = c) ∨ (b = .stopping ∧ d ≠ none) := by
  cases h with
  | runs _ hb => exact .inl ⟨hb, rfl⟩
  | ends => exact .inr ⟨rfl, by simp⟩
  | stands => cases ha

theorem EndStep.trans {a b d : PointState} {x y z : Option EndCause} (h : EndStep a x b y) (g : EndStep b y d z) :
    EndStep a x d z := by
  cases h with
  | runs ha hb =>
    cases g with
    | runs _ hd => exact .runs ha hd
    | ends => exact .ends ha
    | stands => cases hb
  | ends ha =>
    obtain ⟨rfl, rfl⟩ := g.of_stopping
    exact .ends ha
  | stands =>
    obtain ⟨rfl, rfl⟩ := g.of_stopping
    exact .stands

/-- What is left of a point with an open transaction: its configuration, a context with the same tag, and a state and
end cause that R93 allows. -/
def Point.GoesOn (a b : Point) : Prop :=
  ∀ x, a.context = some x → a.state.isOpen = true →
    b.config = a.config ∧ ∃ y, b.context = some y ∧ y.tag = x.tag ∧ EndStep a.state x.endCause b.state y.endCause

theorem Point.GoesOn.refl (a : Point) : a.GoesOn a := fun x hx ho => ⟨rfl, x, hx, rfl, .refl ho⟩

theorem Point.GoesOn.trans {a b c : Point} (h : a.GoesOn b) (g : b.GoesOn c) : a.GoesOn c := by
  intro x hx ho
  obtain ⟨hk, y, hy, ht, he⟩ := h x hx ho
  obtain ⟨gk, z, hz, gt, ge⟩ := g y hy he.isOpen
  exact ⟨gk.trans hk, z, hz, gt.trans ht, he.trans ge⟩

/-- Of a point with nothing open nothing is said. -/
theorem Point.GoesOn.of_closed {a b : Point} (h : a.state.isOpen = false) : a.GoesOn b :=
  fun _ _ ho => absurd (h.symm.trans ho) (by decide)

theorem Point.GoesOn.of_noContext {a b : Point} (h : a.context = none) : a.GoesOn b :=
  fun x hx _ => by simp [h] at hx

/-- A change of other fields. -/
theorem Point.GoesOn.same {a b : Point} (hk : b.config = a.config) (hs : b.state = a.state)
    (hc : b.context = a.context) : a.GoesOn b :=
  fun x hx ho => ⟨hk, x, hc.trans hx, rfl, hs.symm ▸ .refl ho⟩

/-- A change of the context that leaves its tag and its end cause. -/
theorem Point.GoesOn.withContext {a : Point} {c d : Context} (ha : a.context = some c) (ht : d.tag = c.tag)
    (he : d.endCause = c.endCause) : a.GoesOn { a with context := some d } := by
  intro x hx ho
  obtain rfl : c = x := Option.some.inj (ha.symm.trans hx)
  exact ⟨rfl, d, rfl, ht, he ▸ .refl ho⟩

/-- Records stay and their numbers go up. -/
def Jev.GrowsTo (a b : Jev) : Prop := a.journal ⊆ b.journal ∧ a.nextNumber ≤ b.nextNumber

theorem Jev.GrowsTo.trans {a b c : Jev} (h : a.GrowsTo b) (g : b.GrowsTo c) : a.GrowsTo c :=
  ⟨fun _ hr => g.1 (h.1 hr), Nat.le_trans h.2 g.2⟩

theorem Jev.GrowsTo.of_eq {a b : Jev} (hj : b.journal = a.journal) (hn : b.nextNumber = a.nextNumber) : a.GrowsTo b :=
  ⟨hj ▸ List.Subset.refl _, hn ▸ Nat.le_refl _⟩

/-- From `s` to `t` an open transaction at the point goes on, and the journal grows. -/
structure WorkGoesOn (p : Fin 8) (s t : State) : Prop where
  point : (s.point p).GoesOn (t.point p)
  jev : s.jev.GrowsTo t.jev

variable {p : Fin 8} {s t u : State}

theorem WorkGoesOn.refl (p : Fin 8) (s : State) : WorkGoesOn p s s := ⟨.refl _, .of_eq rfl rfl⟩

theorem WorkGoesOn.trans (h : WorkGoesOn p s t) (g : WorkGoesOn p t u) : WorkGoesOn p s u :=
  ⟨h.point.trans g.point, h.jev.trans g.jev⟩

/-! ### Changes of one block -/

/-- A change of blocks other than the points and the journal. -/
theorem WorkGoesOn.only {l : List Block} (h : WorkGoesOn p s t) (hl : OnlyBlocks l t u)
    (hd : Block.dpt ∉ l := by decide) (hj : Block.jev ∉ l := by decide) : WorkGoesOn p s u := by
  have ed : u.dpt = t.dpt := hl.2 .dpt hd
  have ej : u.jev = t.jev := hl.2 .jev hj
  exact ⟨by simpa only [State.point, ed] using h.point, ej ▸ h.jev⟩

theorem WorkGoesOn.setClock {x : Nat} (h : WorkGoesOn p s t) : WorkGoesOn p s (t.setClock x) := ⟨h.point, h.jev⟩
theorem WorkGoesOn.setChoices {x : Nat} (h : WorkGoesOn p s t) : WorkGoesOn p s (t.setChoices x) := ⟨h.point, h.jev⟩
theorem WorkGoesOn.setSpt {x : Spt} (h : WorkGoesOn p s t) : WorkGoesOn p s (t.setSpt x) := ⟨h.point, h.jev⟩
theorem WorkGoesOn.setFsm {x : Fsm} (h : WorkGoesOn p s t) : WorkGoesOn p s (t.setFsm x) := ⟨h.point, h.jev⟩
theorem WorkGoesOn.setMtc {x : Mtc} (h : WorkGoesOn p s t) : WorkGoesOn p s (t.setMtc x) := ⟨h.point, h.jev⟩
theorem WorkGoesOn.setMac {x : Mac} (h : WorkGoesOn p s t) : WorkGoesOn p s (t.setMac x) := ⟨h.point, h.jev⟩
theorem WorkGoesOn.setTks {x : Tks} (h : WorkGoesOn p s t) : WorkGoesOn p s (t.setTks x) := ⟨h.point, h.jev⟩
theorem WorkGoesOn.setSsd {x : Ssd} (h : WorkGoesOn p s t) : WorkGoesOn p s (t.setSsd x) := ⟨h.point, h.jev⟩
theorem WorkGoesOn.setMgt {x : Mgt} (h : WorkGoesOn p s t) : WorkGoesOn p s (t.setMgt x) := ⟨h.point, h.jev⟩
theorem WorkGoesOn.setEntry {e : Fin 32} {x : Option PollEntry} (h : WorkGoesOn p s t) :
    WorkGoesOn p s (t.setEntry e x) := h.setFsm
theorem WorkGoesOn.setChannel {c : Fin 8} {x : Channel} (h : WorkGoesOn p s t) : WorkGoesOn p s (t.setChannel c x) :=
  h.setMtc
theorem WorkGoesOn.setPump {k : Fin 4} {x : Pump} (h : WorkGoesOn p s t) : WorkGoesOn p s (t.setPump k x) :=
  ⟨h.point, h.jev⟩
theorem WorkGoesOn.setSlot {k : Fin 4} {x : Option Run} (h : WorkGoesOn p s t) : WorkGoesOn p s (t.setSlot k x) :=
  ⟨h.point, h.jev⟩
theorem WorkGoesOn.setAccount {slot : Nat} {a : Account} (h : WorkGoesOn p s t) :
    WorkGoesOn p s (t.setAccount slot a) := h.setMac
theorem WorkGoesOn.modTank {k : Fin 8} {f : Tank → Tank} (h : WorkGoesOn p s t) : WorkGoesOn p s (t.modTank k f) :=
  h.setTks
theorem WorkGoesOn.setOrder {o : Fin 16} {x : Option Order} (h : WorkGoesOn p s t) : WorkGoesOn p s (t.setOrder o x) :=
  h.setTks
theorem WorkGoesOn.setSpill {i : Fin 8} {x : Spill} (h : WorkGoesOn p s t) : WorkGoesOn p s (t.setSpill i x) := h.setSsd
theorem WorkGoesOn.setLoop {l : Fin 2} {x : EstopLoop} (h : WorkGoesOn p s t) : WorkGoesOn p s (t.setLoop l x) :=
  h.setSsd
theorem WorkGoesOn.setSump {k : Fin 4} {x : Sump} (h : WorkGoesOn p s t) : WorkGoesOn p s (t.setSump k x) := h.setSsd
theorem WorkGoesOn.setCause {k : CauseKey} {x : Option CauseEntry} (h : WorkGoesOn p s t) :
    WorkGoesOn p s (t.setCause k x) := h.setSsd
theorem WorkGoesOn.countSite {f : SiteCounters → SiteCounters} (h : WorkGoesOn p s t) :
    WorkGoesOn p s (t.countSite f) := h.setSpt
theorem WorkGoesOn.countField {f : FieldCounters → FieldCounters} (h : WorkGoesOn p s t) :
    WorkGoesOn p s (t.countField f) := h.setFsm

theorem WorkGoesOn.setJev {j : Jev} (h : WorkGoesOn p s t) (hj : t.jev.GrowsTo j) : WorkGoesOn p s (t.setJev j) :=
  ⟨h.point, h.jev.trans hj⟩

theorem WorkGoesOn.ite {c : Prop} [Decidable c] (ht : WorkGoesOn p s t) (hu : WorkGoesOn p s u) :
    WorkGoesOn p s (if c then t else u) := by
  split <;> assumption

/-- Work that goes on through each turn of a loop goes on through the loop. -/
theorem WorkGoesOn.each {α : Type} {f : State → α → State} {l : List α} (h : WorkGoesOn p s t)
    (hf : ∀ u a, WorkGoesOn p s u → WorkGoesOn p s (f u a)) : WorkGoesOn p s (each l f t) := by
  induction l generalizing t with
  | nil => exact h
  | cons a l ih => exact ih (hf t a h)

/-! ### Events, the journal and the ports -/

theorem WorkGoesOn.raise {k : EventKind} {n : Nat} {d : List Byte} (h : WorkGoesOn p s t) :
    WorkGoesOn p s (t.raise k n d) := by
  obtain ⟨hj, hn, -⟩ := t.jev.take_keeps { kind := k, source := n, uptime := t.uptime, detail := padTo 8 d }
  exact h.setJev (.of_eq hj hn)

theorem WorkGoesOn.append {r : Nat → Record} (h : WorkGoesOn p s t) : WorkGoesOn p s (t.append r) :=
  h.setJev ⟨List.subset_append_left _ _, Nat.le_succ _⟩

theorem WorkGoesOn.reservePlace (h : WorkGoesOn p s t) : WorkGoesOn p s t.reservePlace := h.setJev (.of_eq rfl rfl)

theorem WorkGoesOn.reportFull (h : WorkGoesOn p s t) : WorkGoesOn p s t.reportFull :=
  .ite h (h.setJev (by exact .of_eq rfl rfl)).raise

theorem WorkGoesOn.claim {w : Waiter} (h : WorkGoesOn p s t) : WorkGoesOn p s (t.claim w) := .ite h.setSpt h

theorem WorkGoesOn.popSite (h : WorkGoesOn p s t) : WorkGoesOn p s t.popSite := h.setSpt

theorem WorkGoesOn.offerPanel {f : Frame} (h : WorkGoesOn p s t) : WorkGoesOn p s (t.offerPanel f) :=
  h.only (offerPanel_only t f)

/-! ### Points (chapter 5) -/

/-- A change of one point that goes on itself. -/
theorem WorkGoesOn.change {q : Fin 8} (h : WorkGoesOn p s t) (hq : (t.point q).GoesOn (u.point q))
    (hne : q ≠ p → u.point p = t.point p) (hj : u.jev = t.jev) : WorkGoesOn p s u := by
  refine ⟨?_, hj ▸ h.jev⟩
  by_cases e : q = p
  · subst e
    exact h.point.trans hq
  · exact hne e ▸ h.point

theorem WorkGoesOn.setPoint {q : Fin 8} {x : Point} (h : WorkGoesOn p s t) (hx : (t.point q).GoesOn x) :
    WorkGoesOn p s (t.setPoint q x) :=
  h.change (q := q) (by simpa using hx) (t.setPoint_point_ne x) rfl

theorem WorkGoesOn.setPoint_ne {q : Fin 8} {x : Point} (h : WorkGoesOn p s t) (hq : q ≠ p) :
    WorkGoesOn p s (t.setPoint q x) :=
  ⟨(t.setPoint_point_ne x hq).symm ▸ h.point, h.jev⟩

theorem State.modContext_point_self (s : State) (q : Fin 8) (f : Context → Context) :
    (s.modContext q f).point q = { s.point q with context := (s.point q).context.map f } := by
  unfold State.modContext
  split
  next hc => rw [hc, Option.map_none, ← hc]
  next c hc => rw [hc, Option.map_some, State.setPoint_point_self]

theorem State.modContext_point_ne (s : State) {p q : Fin 8} (f : Context → Context) (h : q ≠ p) :
    (s.modContext q f).point p = s.point p := by
  unfold State.modContext
  split
  · rfl
  · exact s.setPoint_point_ne _ h

theorem WorkGoesOn.modContext {q : Fin 8} {f : Context → Context} (h : WorkGoesOn p s t)
    (hf : ∀ c, (f c).tag = c.tag ∧ (f c).endCause = c.endCause := by exact fun _ => ⟨rfl, rfl⟩) :
    WorkGoesOn p s (t.modContext q f) := by
  unfold State.modContext
  split
  · exact h
  next c hc => exact h.setPoint (.withContext hc (hf c).1 (hf c).2)

theorem WorkGoesOn.takeFigures {q : Fin 8} (h : WorkGoesOn p s t) : WorkGoesOn p s (t.takeFigures q) := h.modContext

theorem State.takeFigures_point_state (s : State) (q : Fin 8) :
    ((s.takeFigures q).point q).state = (s.point q).state := by
  rw [State.takeFigures, State.modContext_point_self]

theorem WorkGoesOn.syncPumps (h : WorkGoesOn p s t) : WorkGoesOn p s t.syncPumps := h.each fun _ _ h => h.setPump

theorem WorkGoesOn.sendPanel {q : Fin 8} (h : WorkGoesOn p s t) : WorkGoesOn p s (t.sendPanel q) :=
  .ite h (h.takeFigures.setPoint (by exact .same rfl rfl rfl)).offerPanel

/-- A running point goes on to run, and of one with nothing open nothing is said. -/
theorem WorkGoesOn.enterState {q : Fin 8} {x : PointState} (h : WorkGoesOn p s t)
    (hx : (t.point q).state.isOpen = true → (t.point q).state.running = true ∧ x.running = true) :
    WorkGoesOn p s (t.enterState q x) :=
  (h.setPoint (by exact fun c hc ho => ⟨rfl, c, hc, rfl, .runs (hx ho).1 (hx ho).2⟩)).syncPumps.sendPanel

/-- The first end taken sets the cause; a point that is not running ignores it (R93). -/
theorem WorkGoesOn.toStopping {q : Fin 8} {c : EndCause} (h : WorkGoesOn p s t) :
    WorkGoesOn p s (t.toStopping q c) := by
  unfold State.toStopping
  split
  next hr =>
    refine WorkGoesOn.sendPanel (.syncPumps (h.change (q := q) ?_ (fun hq => ?_) ?_))
    · intro x hx _
      rw [State.setPoint_point_self, State.modContext_point_self]
      exact ⟨rfl, _, congrArg (Option.map _) hx, rfl, .ends hr⟩
    · rw [State.setPoint_point_ne _ _ hq, State.modContext_point_ne _ _ hq]
    · exact (modContext_only t q _).2 .jev (by decide)
  next => exact h

theorem WorkGoesOn.reportLockouts (h : WorkGoesOn p s t) : WorkGoesOn p s t.reportLockouts :=
  h.setTks.each fun _ _ h => h.each fun _ _ h => .ite h.toStopping h

/-! ### Tanks and deliveries (chapter 8) -/

theorem WorkGoesOn.settleTank {k : Fin 8} (h : WorkGoesOn p s t) : WorkGoesOn p s (t.settleTank k) := h.modTank

theorem WorkGoesOn.evalTank {k : Fin 8} (h : WorkGoesOn p s t) : WorkGoesOn p s (t.evalTank k) :=
  .ite h.settleTank.raise (.ite h.settleTank.setTks.raise h.settleTank)

theorem WorkGoesOn.postBook {k : Fin 8} {d : Int} (h : WorkGoesOn p s t) : WorkGoesOn p s (t.postBook k d) :=
  h.modTank.evalTank

theorem WorkGoesOn.endOrder {o : Fin 16} {x : Order} {c : DeliveryEnd} (h : WorkGoesOn p s t) :
    WorkGoesOn p s (t.endOrder o x c) := h.append.setOrder.modTank.raise

theorem WorkGoesOn.endDelivery {k : Fin 8} {c : DeliveryEnd} (h : WorkGoesOn p s t) :
    WorkGoesOn p s (t.endDelivery k c) := by
  unfold State.endDelivery
  split
  · exact h
  · split
    · exact h
    · split
      · exact h
      · exact h.endOrder

theorem WorkGoesOn.endDeliveries {c : DeliveryEnd} (h : WorkGoesOn p s t) : WorkGoesOn p s (t.endDeliveries c) :=
  h.each fun _ _ h => h.endDelivery

theorem WorkGoesOn.gaugeEvent {k : Fin 8} {e : EventKind} (h : WorkGoesOn p s t) : WorkGoesOn p s (t.gaugeEvent k e) :=
  .ite h.raise h

theorem WorkGoesOn.gaugeLeftValid {k : Fin 8} (h : WorkGoesOn p s t) : WorkGoesOn p s (t.gaugeLeftValid k) :=
  (h.each fun _ _ h => .ite h.modContext h).endDelivery

theorem WorkGoesOn.gaugeMoves {k : Fin 8} {g : GaugeState} {e : EventKind} (h : WorkGoesOn p s t) :
    WorkGoesOn p s (t.gaugeMoves k g e) :=
  .ite h (WorkGoesOn.ite h.modTank.gaugeEvent.gaugeLeftValid h.modTank.gaugeEvent).evalTank

/-! ### Accounts (chapter 7) -/

theorem WorkGoesOn.modAccount {slot : Nat} {f : Account → Account} (h : WorkGoesOn p s t) :
    WorkGoesOn p s (t.modAccount slot f) := by
  unfold State.modAccount
  split
  · exact h
  · exact h.setAccount

theorem State.modAccount_point (s : State) (slot : Nat) (f : Account → Account) (q : Fin 8) :
    (s.modAccount slot f).point q = s.point q := by
  unfold State.modAccount
  split <;> rfl

theorem WorkGoesOn.serviceEvents {slot i : Nat} {n : Option Nat} {a b : Service} (h : WorkGoesOn p s t) :
    WorkGoesOn p s (serviceEvents slot n t i a b) :=
  have due := WorkGoesOn.ite h.raise h
  .ite due.raise due

theorem WorkGoesOn.serviceEventsFrom {slot i : Nat} {n : Option Nat} {l : List Service} (h : WorkGoesOn p s t) :
    WorkGoesOn p s (serviceEventsFrom slot n i l t) := by
  induction l generalizing i t with
  | nil => exact h
  | cons v rest ih => exact ih h.serviceEvents

theorem serviceEventsFrom_dpt (slot i : Nat) (n : Option Nat) (l : List Service) (s : State) :
    (serviceEventsFrom slot n i l s).dpt = s.dpt := by
  induction l generalizing i s with
  | nil => rfl
  | cons v rest ih =>
    rw [serviceEventsFrom, ih]
    simp [serviceEvents, State.raise, apply_ite State.dpt]

theorem WorkGoesOn.offerHour {slot n : Nat} {a : Account} {q : Fin 8} (h : WorkGoesOn p s t) :
    WorkGoesOn p s (t.offerHour slot a q n).1 := by
  simp only [State.offerHour]
  split
  · exact h.setAccount.serviceEventsFrom
  · exact h.setAccount.raise
  · exact h.setAccount.raise
  · exact h.setAccount

theorem State.offerHour_point (s : State) (slot n : Nat) (a : Account) (p q : Fin 8) :
    (s.offerHour slot a p n).1.point q = s.point q := by
  have hd : (s.offerHour slot a p n).1.dpt = s.dpt := by
    simp only [State.offerHour]
    split <;> simp [serviceEventsFrom_dpt, State.setAccount, State.raise]
  simp only [State.point, hd]

theorem WorkGoesOn.burnStep {slot n : Nat} {a : Account} (h : WorkGoesOn p s t) :
    WorkGoesOn p s (t.burnStep slot a n) := by
  unfold State.burnStep
  dsimp only
  split
  · exact h.setAccount
  · exact .ite h (.ite h.setAccount h.setAccount.raise)

theorem WorkGoesOn.burnAtRest {slot : Nat} (h : WorkGoesOn p s t) : WorkGoesOn p s (t.burnAtRest slot) := by
  unfold State.burnAtRest
  split
  · exact h
  · split
    · split
      · exact h
      · exact h.burnStep.modAccount
    · exact h

theorem WorkGoesOn.serviceDoneFrom {slot n i : Nat} {q : Fin 6} {m : Option Nat} {l : List Service}
    (h : WorkGoesOn p s t) : WorkGoesOn p s (serviceDoneFrom slot q n m i l t) := by
  induction l generalizing i t with
  | nil => exact h
  | cons v rest ih => exact ih (.ite h.raise h)

theorem WorkGoesOn.completeServices {slot n : Nat} {q : Fin 6} (h : WorkGoesOn p s t) :
    WorkGoesOn p s (t.completeServices slot q n) := by
  unfold State.completeServices
  split
  · exact h
  · exact h.setAccount.serviceDoneFrom

theorem WorkGoesOn.accountCompletion {slot n : Nat} {q : Fin 6} (h : WorkGoesOn p s t) :
    WorkGoesOn p s (t.accountCompletion slot q n) := h.modAccount.burnAtRest.completeServices

/-! ### Commitments, authorisations and panel keys (chapter 5) -/

theorem WorkGoesOn.recommit {k : Fin 8} {q : Fin 6} {slot old new : Nat} (h : WorkGoesOn p s t) :
    WorkGoesOn p s (t.recommit k q slot old new) := h.modTank.modAccount

theorem WorkGoesOn.postNet {q : Fin 8} {n : Nat} (h : WorkGoesOn p s t) : WorkGoesOn p s (t.postNet q n) := by
  unfold State.postNet
  split
  next hk hc =>
    split
    · exact h
    · exact (h.setPoint (by exact .withContext hc rfl rfl)).recommit.modAccount.postBook
  next => exact h

theorem WorkGoesOn.flowChecks {q : Fin 8} (h : WorkGoesOn p s t) : WorkGoesOn p s (t.flowChecks q) := by
  unfold State.flowChecks
  split
  · dsimp only
    split
    · exact h.toStopping
    · split
      next hf => exact h.enterState fun _ => by simp [hf.1, PointState.running]
      next => exact h
  · exact h

/-- A context is opened only where none is open. -/
theorem WorkGoesOn.openContext {q : Fin 8} {k : PointConfig} {c : Context} (h : WorkGoesOn p s t)
    (hq : (t.point q).state = .idle) : WorkGoesOn p s (t.openContext q k c) := by
  refine WorkGoesOn.sendPanel (WorkGoesOn.setPoint h.setChannel.reservePlace.recommit.modAccount (.of_closed ?_))
  rw [State.modAccount_point, State.recommit, State.modAccount_point]
  exact congrArg PointState.isOpen hq

theorem WorkGoesOn.refuse {q : Fin 8} {a : AuthSource} {c : AuthRefusal} (h : WorkGoesOn p s t) :
    WorkGoesOn p s (t.refuse q a c) :=
  have refused := (h.setPoint (by exact .same rfl rfl rfl)).sendPanel.raise
  .ite refused.reportFull refused

theorem WorkGoesOn.authoriseLimit {r : AuthRequest} {k : PointConfig} {slot : Nat} {a : Account} {x : HourResult}
    (h : WorkGoesOn p s t) (hq : (t.point r.point).state = .idle) :
    WorkGoesOn p s (t.authoriseLimit r k slot a x).1 := by
  simp only [State.authoriseLimit]
  split
  · exact h.refuse
  · split
    · exact h.refuse
    · exact h.openContext hq

theorem WorkGoesOn.authoriseHours {r : AuthRequest} {k : PointConfig} {slot : Nat} {a : Account}
    (h : WorkGoesOn p s t) (hq : (t.point r.point).state = .idle) :
    WorkGoesOn p s (t.authoriseHours r k slot a).1 := by
  simp only [State.authoriseHours]
  cases r.hour with
  | none =>
    dsimp only
    split
    · exact h.refuse
    · exact h.authoriseLimit hq
  | some n =>
    dsimp only
    split
    · exact h.offerHour.refuse
    · exact h.offerHour.authoriseLimit ((congrArg Point.state (t.offerHour_point _ _ _ _ _)).trans hq)

/-- The first four checks pass only at an IDLE point (R77). -/
theorem State.idle_of_pointChecks {s : State} {q : Fin 8} (h : s.pointChecks q = none) : (s.point q).state = .idle := by
  refine Decidable.byContradiction fun hi => ?_
  simp only [State.pointChecks, if_pos hi] at h
  split at h
  · cases h
  · split at h <;> cases h

theorem WorkGoesOn.authorise {r : AuthRequest} (h : WorkGoesOn p s t) : WorkGoesOn p s (t.authorise r).1 := by
  unfold State.authorise
  split
  · exact h.refuse
  · dsimp only
    exact h.refuse
  next hp _ =>
    split
    · dsimp only
      exact h.refuse
    · split
      · exact h.refuse
      · exact h.authoriseHours (State.idle_of_pointChecks hp)

theorem WorkGoesOn.ackKey {q : Fin 8} (h : WorkGoesOn p s t) : WorkGoesOn p s (t.ackKey q) :=
  .ite h (h.setPoint (by exact .same rfl rfl rfl)).sendPanel

theorem WorkGoesOn.startKey {q : Fin 8} (h : WorkGoesOn p s t) : WorkGoesOn p s (t.startKey q) := by
  unfold State.startKey
  split
  next ha _ _ =>
    have clocked : WorkGoesOn p s (t.modContext q (fun c => { c with lastCount := t.ms, overspeed := 0 })) :=
      h.modContext
    have authorised :
        ((t.modContext q (fun c => { c with lastCount := t.ms, overspeed := 0 })).point q).state = .authorised := by
      rw [State.modContext_point_self]
      exact ha
    dsimp only
    generalize t.modContext q _ = u at clocked authorised ⊢
    have taken := clocked.takeFigures (q := q)
    have running : ((u.takeFigures q).point q).state.running = true := by
      rw [State.takeFigures_point_state, authorised]
      rfl
    split
    · exact taken
    · exact .ite taken.toStopping
        (.ite (taken.enterState fun _ => ⟨running, rfl⟩) (taken.enterState fun _ => ⟨running, rfl⟩))
  next => exact h

theorem WorkGoesOn.presetKey {q : Fin 8} {v : Nat} (h : WorkGoesOn p s t) : WorkGoesOn p s (t.presetKey q v) := by
  unfold State.presetKey
  split
  · dsimp only
    split
    next hc =>
      split
      · exact (h.takeFigures.setPoint (by exact .withContext hc rfl rfl)).recommit.sendPanel.flowChecks
      · exact h.takeFigures
    next => exact h.takeFigures
  · exact h

theorem WorkGoesOn.closeSegments {k : Fin 8} (h : WorkGoesOn p s t) : WorkGoesOn p s (t.closeSegments k) := by
  refine h.each fun u q hu => ?_
  split
  · exact hu
  · exact .ite hu.modContext hu

/-! ### Causes, spill inputs and sumps (chapter 9) -/

theorem WorkGoesOn.startPattern (h : WorkGoesOn p s t) : WorkGoesOn p s t.startPattern := h.setSsd

theorem WorkGoesOn.liftSilence (h : WorkGoesOn p s t) : WorkGoesOn p s t.liftSilence :=
  .ite (.ite h.setSsd.startPattern h.setSsd) h

theorem WorkGoesOn.takeLevel {l : Level} (h : WorkGoesOn p s t) : WorkGoesOn p s (t.takeLevel l) :=
  (WorkGoesOn.ite h.setSsd.startPattern h.setSsd).syncPumps

theorem WorkGoesOn.riseFromNormal (h : WorkGoesOn p s t) : WorkGoesOn p s t.riseFromNormal :=
  (h.each fun _ _ h => h.toStopping).only (purgeGated_only _)

theorem WorkGoesOn.evalLevel (h : WorkGoesOn p s t) : WorkGoesOn p s t.evalLevel := by
  unfold State.evalLevel
  dsimp only
  split
  · exact h
  · have levelled : WorkGoesOn p s
        ((t.takeLevel t.calledLevel).raise .levelChanged noSource [t.ssd.level.code, t.calledLevel.code]) :=
      h.takeLevel.raise
    have risen := WorkGoesOn.ite (c := t.ssd.level = .normal) levelled.riseFromNormal levelled
    exact .ite risen.endDeliveries risen

theorem WorkGoesOn.newCause {k : CauseKey} {e : CauseEntry} (h : WorkGoesOn p s t) : WorkGoesOn p s (t.newCause k e) :=
  h.setCause.raise.liftSilence

theorem WorkGoesOn.causePresent {k : CauseKey} {l : Level} (h : WorkGoesOn p s t) :
    WorkGoesOn p s (t.causePresent k l) := by
  unfold State.causePresent
  split
  · exact h.newCause.evalLevel
  · exact .ite h h.setCause.raise.evalLevel

theorem WorkGoesOn.causeGone {k : CauseKey} (h : WorkGoesOn p s t) : WorkGoesOn p s (t.causeGone k) := by
  unfold State.causeGone
  split
  · exact .ite h.setCause.raise.evalLevel h
  · exact h

theorem WorkGoesOn.conditionChange {k : CauseKey} {l : Level} {a b : Bool} (h : WorkGoesOn p s t) :
    WorkGoesOn p s (t.conditionChange k l a b) := by
  unfold State.conditionChange
  split
  · exact h.causePresent
  · exact h.causeGone
  · exact h

theorem WorkGoesOn.eventCause {k : CauseKey} {l : Level} (h : WorkGoesOn p s t) :
    WorkGoesOn p s (t.eventCause k l) := by
  unfold State.eventCause
  split
  · exact h.newCause.evalLevel
  · exact .ite h.setCause.raise.evalLevel h

theorem WorkGoesOn.setSpillPresent {i : Fin 8} {b : Bool} (h : WorkGoesOn p s t) :
    WorkGoesOn p s (t.setSpillPresent i b) := h.setSpill.conditionChange

theorem WorkGoesOn.judgeSpill {i : Fin 8} (h : WorkGoesOn p s t) : WorkGoesOn p s (t.judgeSpill i) :=
  .ite (.ite (.ite h (.ite h.setSpillPresent h.setSpill)) h.setSpillPresent) h

theorem WorkGoesOn.rejudgeSpill {i : Fin 8} (h : WorkGoesOn p s t) : WorkGoesOn p s (t.rejudgeSpill i) :=
  .ite (.ite h.setSpillPresent h.setSpill) h.setSpillPresent

theorem WorkGoesOn.judgeSumpLevels {k : Fin 4} (h : WorkGoesOn p s t) : WorkGoesOn p s (t.judgeSumpLevels k) := by
  simp only [State.judgeSumpLevels]
  split <;> exact h.setSump.conditionChange.conditionChange

theorem WorkGoesOn.setSumpStale {k : Fin 4} {b : Bool} (h : WorkGoesOn p s t) : WorkGoesOn p s (t.setSumpStale k b) :=
  h.setSump.conditionChange

theorem WorkGoesOn.judgeSumpStale {k : Fin 4} (h : WorkGoesOn p s t) : WorkGoesOn p s (t.judgeSumpStale k) := by
  unfold State.judgeSumpStale
  split <;> exact h.setSumpStale

theorem WorkGoesOn.sumpSample {k : Fin 4} {l : Nat} (h : WorkGoesOn p s t) : WorkGoesOn p s (t.sumpSample k l) :=
  h.setSump.judgeSumpLevels

/-! ### Gauges and station data (chapters 8 and 2) -/

theorem WorkGoesOn.sampleFigures {r : GaugeRecord} (h : WorkGoesOn p s t) : WorkGoesOn p s (t.sampleFigures r) := by
  unfold State.sampleFigures
  exact WorkGoesOn.modTank (.ite h.modTank.closeSegments h.modTank)

theorem WorkGoesOn.sampleBook {k : Fin 8} (h : WorkGoesOn p s t) : WorkGoesOn p s (t.sampleBook k) :=
  .ite h.modTank.evalTank h

theorem WorkGoesOn.sampleHighLevel {k : Fin 8} (h : WorkGoesOn p s t) : WorkGoesOn p s (t.sampleHighLevel k) :=
  .ite h h.endDelivery

theorem WorkGoesOn.testLoss {k : Fin 8} {n : Nat} {l : Int} (h : WorkGoesOn p s t) :
    WorkGoesOn p s (t.testLoss k n l) :=
  .ite h.modTank.eventCause (.ite (.ite h h.modTank.raise) h.modTank)

theorem WorkGoesOn.sampleLoss {k : Fin 8} {c : TankConfig} (h : WorkGoesOn p s t) :
    WorkGoesOn p s (t.sampleLoss k c) := by
  unfold State.sampleLoss
  split
  · exact h
  · exact .ite h.testLoss h

theorem WorkGoesOn.gaugeSample {r : GaugeRecord} (h : WorkGoesOn p s t) : WorkGoesOn p s (t.gaugeSample r) := by
  unfold State.gaugeSample
  split
  · exact h
  · exact .ite (.ite h.gaugeMoves (.ite h.sampleFigures.sampleBook.sampleHighLevel.sampleLoss h.sampleFigures)) h

theorem WorkGoesOn.reportStale {n : Nat} (h : WorkGoesOn p s t) : WorkGoesOn p s (t.reportStale n) := by
  refine (h.each fun u k hu => ?_).each fun u k hu => ?_
  · split
    · exact hu
    · exact .ite hu.gaugeMoves hu
  · split
    · exact hu
    · exact .ite hu.setSumpStale hu

theorem WorkGoesOn.reportFresh {n : Nat} (h : WorkGoesOn p s t) : WorkGoesOn p s (t.reportFresh n) := by
  refine h.each fun u k hu => ?_
  split
  · exact hu
  · exact .ite hu.setSumpStale hu

theorem WorkGoesOn.reportChange {n : Nat} {a b : Bool} (h : WorkGoesOn p s t) :
    WorkGoesOn p s (t.reportChange n a b) := by
  unfold State.reportChange
  split
  · exact h.reportStale
  · exact h.reportFresh
  · exact h

/-! ### Runs (chapter 6) -/

theorem WorkGoesOn.modRun {k : Fin 4} {f : Run → Run} (h : WorkGoesOn p s t) : WorkGoesOn p s (t.modRun k f) := by
  unfold State.modRun
  split
  · exact h
  · exact h.setSlot

theorem WorkGoesOn.suspendRun {k : Fin 4} {r : Run} {x : SuspendReason} {c : Option AuthRefusal}
    (h : WorkGoesOn p s t) : WorkGoesOn p s (t.suspendRun k r x c) := h.setSlot.raise

theorem WorkGoesOn.finishRun {k : Fin 4} {r : Run} (h : WorkGoesOn p s t) : WorkGoesOn p s (t.finishRun k r) :=
  h.setSlot.raise

theorem WorkGoesOn.offerStep {k : Fin 4} {r : Run} {x : RunStep} {v : Nat} {n : Option Nat} (h : WorkGoesOn p s t) :
    WorkGoesOn p s (t.offerStep k r x v n).1 := by
  simp only [State.offerStep]
  split
  · exact h.authorise.setSlot
  · exact h.authorise.suspendRun

theorem WorkGoesOn.nextStep {k : Fin 4} {r : Run} (h : WorkGoesOn p s t) : WorkGoesOn p s (t.nextStep k r).1 := by
  simp only [State.nextStep]
  split
  · exact h.setSlot
  · exact h.offerStep

theorem WorkGoesOn.startRun {k : Fin 4} {r : Run} {q : Fin 8} {n : Option Nat} (h : WorkGoesOn p s t) :
    WorkGoesOn p s (t.startRun k r q n) := by
  simp only [State.startRun]
  split
  · exact h.setSlot.raise
  · exact h.setSlot.raise.offerStep

theorem WorkGoesOn.continueRun {k : Fin 4} {r : Run} {c : Option EndCause} (h : WorkGoesOn p s t) :
    WorkGoesOn p s (t.continueRun k r c).1 := by
  unfold State.continueRun
  split
  · split
    · exact h.finishRun
    · split
      · exact h.suspendRun
      · exact h.setSlot
  · exact h.suspendRun

theorem WorkGoesOn.stepEnd {r : Option (Nat × Nat)} {c : Option EndCause} {n : Nat} (h : WorkGoesOn p s t) :
    WorkGoesOn p s (t.stepEnd r c n).1 := by
  unfold State.stepEnd
  split
  · exact h
  · split
    · exact h
    · split
      · exact h
      · dsimp only
        split
        · exact h.continueRun
        · exact h.setSlot

theorem WorkGoesOn.followOn {k : Option (Fin 4)} (h : WorkGoesOn p s t) : WorkGoesOn p s (t.followOn k) := by
  unfold State.followOn
  split
  · exact h
  · split
    · exact h
    · exact h.nextStep

/-- The step of an abandoned run is ended at its point as any other end is taken (R109). -/
theorem WorkGoesOn.abandonRun {k : Fin 4} {r : Run} {x : AbandonReason} (h : WorkGoesOn p s t) :
    WorkGoesOn p s (t.abandonRun k r x) := by
  simp only [State.abandonRun]
  split
  · exact h.setSlot.raise
  · exact h.setSlot.raise.toStopping

theorem WorkGoesOn.tagRead {q : Fin 8} {tag : Nat} {n : Option Nat} (h : WorkGoesOn p s t) :
    WorkGoesOn p s (t.tagRead q tag n) := by
  simp only [State.tagRead]
  refine .ite h ?_
  split
  · exact h.startRun
  · exact h.authorise

theorem WorkGoesOn.resumeRun {k : Fin 4} {r : Run} (h : WorkGoesOn p s t) : WorkGoesOn p s (t.resumeRun k r).1 := by
  unfold State.resumeRun
  split
  · exact h.finishRun
  · exact h.nextStep

theorem WorkGoesOn.resumeKey {q : Fin 8} (h : WorkGoesOn p s t) : WorkGoesOn p s (t.resumeKey q) := by
  unfold State.resumeKey
  split
  · split
    · exact h
    · exact h.resumeRun
  · split
    · exact h.modRun
    · exact h

/-! ### Counts, windows and completions (R88, R90, R94, R97) -/

theorem WorkGoesOn.contextCount {q : Fin 8} (h : WorkGoesOn p s t) : WorkGoesOn p s (t.contextCount q) := by
  unfold State.contextCount
  split
  · exact h.modContext
  · exact h.modContext.takeFigures.flowChecks
  · exact h.modContext.takeFigures.flowChecks
  · exact h

theorem WorkGoesOn.contextPhaseError {q : Fin 8} (h : WorkGoesOn p s t) : WorkGoesOn p s (t.contextPhaseError q) := by
  unfold State.contextPhaseError
  split
  · exact h
  next c hc =>
    have counted : WorkGoesOn p s
        (t.setPoint q { t.point q with context := some { c with phaseErrors := inc16 c.phaseErrors } }) :=
      h.setPoint (.withContext hc rfl rfl)
    exact .ite counted.raise counted

theorem WorkGoesOn.settleCommitment {q : Fin 8} {k : PointConfig} {c : Context} {n : Nat} (h : WorkGoesOn p s t) :
    WorkGoesOn p s (t.settleCommitment q k c n) := h.postNet.recommit.modAccount

theorem WorkGoesOn.reportOverrun {q : Fin 8} {k : PointConfig} {c : Context} {n : Nat} (h : WorkGoesOn p s t) :
    WorkGoesOn p s (t.reportOverrun q k c n) := .ite h.raise h

theorem WorkGoesOn.writeDispense {q : Fin 8} {k : PointConfig} {c : Context} {f : Figures} (h : WorkGoesOn p s t) :
    WorkGoesOn p s (t.writeDispense q k c f) := h.append.raise

theorem WorkGoesOn.completeWork {q : Fin 8} {k : PointConfig} {c : Context} {f : Figures} (h : WorkGoesOn p s t) :
    WorkGoesOn p s (t.completeWork q k c f) := h.settleCommitment.reportOverrun.writeDispense.accountCompletion

/-- A context ceases at its own point, and at no other. -/
theorem WorkGoesOn.releasePoint {q : Fin 8} {c : Context} {n : Nat} (h : WorkGoesOn p s t) (hq : q ≠ p) :
    WorkGoesOn p s (t.releasePoint q c n) := (h.setPoint_ne hq).syncPumps

theorem WorkGoesOn.complete {q : Fin 8} (h : WorkGoesOn p s t) (hq : q ≠ p) : WorkGoesOn p s (t.complete q) := by
  simp only [State.complete]
  split
  · exact (h.takeFigures.completeWork.stepEnd.releasePoint hq).sendPanel.followOn
  · exact h.takeFigures

theorem WorkGoesOn.creepCount {c : Fin 8} {b : Bool} (h : WorkGoesOn p s t) : WorkGoesOn p s (t.creepCount c b) :=
  .ite h.setChannel.eventCause h.setChannel

theorem WorkGoesOn.handCount {c : Fin 8} {b : Bool} (h : WorkGoesOn p s t) : WorkGoesOn p s (t.handCount c b) := by
  unfold State.handCount
  split
  · exact h.contextCount
  · exact h.creepCount

theorem WorkGoesOn.windowPost {q : Fin 8} (h : WorkGoesOn p s t) : WorkGoesOn p s (t.windowPost q) := by
  simp only [State.windowPost]
  split
  · exact h.takeFigures
  · exact h.takeFigures.postNet

theorem WorkGoesOn.windowChecks {q : Fin 8} (h : WorkGoesOn p s t) : WorkGoesOn p s (t.windowChecks q) := by
  unfold State.windowChecks
  split
  · exact h
  · split
    · exact h
    · exact h.toStopping

theorem WorkGoesOn.pointWindow {q : Fin 8} {f : Option Nat} (h : WorkGoesOn p s t) :
    WorkGoesOn p s (t.pointWindow q f) := by
  unfold State.pointWindow
  split
  · exact h
  · exact .ite h.windowPost.modContext.windowChecks h

end Sys2Proof.Machine
end

section
/-! Open work goes on through the ports, the segment and the loans (chapters 1, 2 and 8). -/

namespace Sys2Proof.Machine

variable {p : Fin 8} {s t u : State}

/-! ### The delivery protocol (section 8.5) -/

theorem WorkGoesOn.refuseDelivery {o : Fin 16} {x : Order} {c : DeliveryRefusal} (h : WorkGoesOn p s t) :
    WorkGoesOn p s (t.refuseDelivery o x c) := .ite h.setOrder.raise.reportFull h.setOrder.raise

theorem WorkGoesOn.acceptDelivery {o : Fin 16} {x : Order} {n : Nat} (h : WorkGoesOn p s t) :
    WorkGoesOn p s (t.acceptDelivery o x n) := h.setOrder.modTank.reservePlace.raise

theorem WorkGoesOn.deliveryRequest {o : Fin 16} {x : Order} {n : Nat} {k : Fin 8} {q : Fin 6} (h : WorkGoesOn p s t) :
    WorkGoesOn p s (t.deliveryRequest o x n k q).1 := by
  unfold State.deliveryRequest
  split
  · split
    · exact h.refuseDelivery
    · exact h.acceptDelivery
  · exact h
  · exact h

theorem WorkGoesOn.deliveryReport {o : Fin 16} {x : Order} {n : Nat} {c : Int} (h : WorkGoesOn p s t) :
    WorkGoesOn p s (t.deliveryReport o x n c) := .ite h.setOrder.postBook.endDelivery h.setOrder.postBook

theorem WorkGoesOn.deliveryRunning {o : Fin 16} {x : Order} {n : Nat} {c : Int} (h : WorkGoesOn p s t) :
    WorkGoesOn p s (t.deliveryRunning o x n c).1 := by
  unfold State.deliveryRunning
  split
  · exact h
  · split
    · exact h
    · exact h.deliveryReport
  · exact h

theorem WorkGoesOn.deliveryEnd {o : Fin 16} {x : Order} {n : Nat} {c : Int} (h : WorkGoesOn p s t) :
    WorkGoesOn p s (t.deliveryEnd o x n c).1 := by
  unfold State.deliveryEnd
  split
  · split
    · exact h.endDelivery
    · exact h.deliveryReport.endDelivery
  · exact h.deliveryRunning

theorem WorkGoesOn.deliveryPhase {o : Fin 16} {x : Order} {f : DeliveryFrame} (h : WorkGoesOn p s t) :
    WorkGoesOn p s (t.deliveryPhase o x f).1 := by
  unfold State.deliveryPhase
  split
  · split
    · exact h
    · exact h.deliveryRequest
  · split
    · exact h
    · exact h.deliveryRunning
  · split
    · exact h
    · exact h.deliveryEnd

theorem WorkGoesOn.noOrder {f : DeliveryFrame} (h : WorkGoesOn p s t) : WorkGoesOn p s (t.noOrder f) := by
  unfold State.noOrder
  split
  · exact h.raise
  · exact h

theorem WorkGoesOn.deliveryFrame {b : List Byte} (h : WorkGoesOn p s t) : WorkGoesOn p s (t.deliveryFrame b).1 := by
  unfold State.deliveryFrame
  split
  · exact h
  · split
    · split
      · exact h.noOrder
      · split
        · exact h
        · exact h.deliveryPhase
    · exact h

theorem WorkGoesOn.takeDelivery {x : Held} (h : WorkGoesOn p s t) : WorkGoesOn p s (t.takeDelivery x) :=
  h.deliveryFrame.setFsm

/-! ### The classifier (R13 to R16) -/

theorem WorkGoesOn.forwardFrame {d : Direction} {f : Frame} {g : Bool} (h : WorkGoesOn p s t) :
    WorkGoesOn p s (t.forwardFrame d f g) := by
  cases d with
  | fromField => exact .ite h.countSite (h.only (offerSite_only t f))
  | fromSite => exact .ite h.countField (h.only (offerForward_only t f g))

theorem WorkGoesOn.panelKey {q : Fin 8} {k : PanelKey} (h : WorkGoesOn p s t) : WorkGoesOn p s (t.panelKey q k) := by
  cases k with
  | start => exact h.startKey
  | stop => exact h.toStopping
  | preset v => exact h.presetKey
  | resume => exact h.resumeKey
  | ack => exact h.ackKey

theorem WorkGoesOn.handOff {r : RoleRecord} (h : WorkGoesOn p s t) : WorkGoesOn p s (t.handOff r) := by
  cases r with
  | nozzleTag q tag hour => exact h.tagRead
  | panelEntry q key => exact h.panelKey
  | gaugeSample r => exact h.gaugeSample
  | sumpLevel k level => exact h.sumpSample

theorem WorkGoesOn.act {e : ClassifierEntry} {f : Frame} (h : WorkGoesOn p s t) : WorkGoesOn p s (t.act e f) := by
  unfold State.act
  split
  · exact h
  · split
    · exact h.countField
    · exact .ite h.handOff h.countField

theorem WorkGoesOn.classify {d : Direction} {f : Frame} (h : WorkGoesOn p s t) : WorkGoesOn p s (t.classify d f) := by
  unfold State.classify
  split
  · exact .ite h.countField.forwardFrame h.countField
  next e _ =>
    have forwarded := WorkGoesOn.ite (c := e.disposition.forwards) (h.forwardFrame (d := d) (f := f) (g := e.gated)) h
    exact .ite forwarded.act forwarded

/-! ### The segment master (chapter 2) -/

theorem WorkGoesOn.modPoll {e : Fin 32} {f : PollEntry → PollEntry} (h : WorkGoesOn p s t) :
    WorkGoesOn p s (t.modPoll e f) := by
  unfold State.modPoll
  split
  · exact h
  · exact h.setEntry

theorem WorkGoesOn.noteData {n : Nat} (h : WorkGoesOn p s t) : WorkGoesOn p s (t.noteData n) := by
  unfold State.noteData
  split
  · exact h
  · exact h.modPoll.reportFresh

theorem WorkGoesOn.incompatible {e : Fin 32} {x : PollEntry} (h : WorkGoesOn p s t) :
    WorkGoesOn p s (t.incompatible e x) := h.setEntry.raise

theorem WorkGoesOn.joined {e : Fin 32} {x : PollEntry} {n : Nat} {l : Bool} {m : Byte} (h : WorkGoesOn p s t) :
    WorkGoesOn p s (t.joined e x n l m) := h.setEntry.raise

theorem WorkGoesOn.resolve {e : Fin 32} {x : PollEntry} (h : WorkGoesOn p s t) : WorkGoesOn p s (t.resolve e x) := by
  unfold State.resolve
  split
  · exact h.incompatible
  · exact h.joined

theorem WorkGoesOn.announceAcking {e : Fin 32} {x : PollEntry} {c k : Byte} {b : Bool} (h : WorkGoesOn p s t) :
    WorkGoesOn p s (t.announceAcking e x c k b) :=
  .ite (.ite (.ite h.resolve h.setEntry) h.setEntry) h.setEntry

theorem WorkGoesOn.announce {e : Fin 32} {x : PollEntry} {q : Bool} {b : List Byte} (h : WorkGoesOn p s t) :
    WorkGoesOn p s (t.announce e x q b) := by
  simp only [State.announce]
  split
  · exact h.setEntry
  · exact h.setEntry
  · exact h.setEntry
  · exact h.setEntry
  · exact h.announceAcking
  · exact h

theorem WorkGoesOn.legacyReply {e : Fin 32} {x : PollEntry} (h : WorkGoesOn p s t) :
    WorkGoesOn p s (t.legacyReply e x) := .ite (.ite h.joined h.incompatible) h.setEntry

theorem WorkGoesOn.plainReply {e : Fin 32} {x : PollEntry} (h : WorkGoesOn p s t) :
    WorkGoesOn p s (t.plainReply e x) := by
  unfold State.plainReply
  split
  · exact h.legacyReply
  · exact h.legacyReply
  · exact h.setEntry
  · exact h

theorem WorkGoesOn.applyOutcome {e : Fin 32} {x : PollEntry} {n : Nat} (h : WorkGoesOn p s t) :
    WorkGoesOn p s (t.applyOutcome e x n) :=
  .ite (.ite h.setEntry.countField.raise h.setEntry.countField) (.ite h.setEntry.raise h.setEntry)

theorem WorkGoesOn.tryGrant (h : WorkGoesOn p s t) : WorkGoesOn p s t.tryGrant := .ite h.setFsm.raise h

theorem WorkGoesOn.endExchange {x : PollExchange} (h : WorkGoesOn p s t) : WorkGoesOn p s (t.endExchange x) := by
  unfold State.endExchange
  dsimp only
  refine WorkGoesOn.tryGrant ?_
  split
  · exact h.setFsm.applyOutcome.modPoll
  · exact h.setFsm

theorem WorkGoesOn.loanEval (h : WorkGoesOn p s t) : WorkGoesOn p s t.loanEval := .ite h.setFsm.tryGrant h

theorem WorkGoesOn.raiseRecall (h : WorkGoesOn p s t) : WorkGoesOn p s t.raiseRecall := .ite h h.setFsm

theorem WorkGoesOn.endLoan (h : WorkGoesOn p s t) : WorkGoesOn p s t.endLoan := h.setFsm.raise.endDeliveries

theorem WorkGoesOn.replyEntry {x : PollExchange} {f : Frame} (h : WorkGoesOn p s t) :
    WorkGoesOn p s (t.replyEntry x f) := by
  unfold State.replyEntry
  split
  · exact .ite (.ite h.announce h) (.ite h.plainReply h)
  · exact h

theorem WorkGoesOn.countReply {x : PollExchange} (h : WorkGoesOn p s t) : WorkGoesOn p s (t.countReply x) :=
  .ite h.endExchange h.setFsm

theorem WorkGoesOn.goodReply {x : PollExchange} {f : Frame} (h : WorkGoesOn p s t) :
    WorkGoesOn p s (t.goodReply x f) := by
  have noted : WorkGoesOn p s (if isAnnounce f then t else t.noteData (frameSource f)) := .ite h h.noteData
  exact (WorkGoesOn.ite noted.replyEntry noted.replyEntry.classify).countReply

theorem WorkGoesOn.judgeReply {x : Held} (h : WorkGoesOn p s t) : WorkGoesOn p s (t.judgeReply x) := by
  unfold State.judgeReply
  split
  · exact .ite h.goodReply h.countField
  · exact h.countField

theorem WorkGoesOn.snoop {x : Held} (h : WorkGoesOn p s t) : WorkGoesOn p s (t.snoop x) := by
  have noted : WorkGoesOn p s (if isAnnounce x.frame then t else t.noteData (frameSource x.frame)) := .ite h h.noteData
  exact .ite (.ite noted.takeDelivery noted.countField) noted.classify

theorem WorkGoesOn.endIfInvalid {b : Bool} (h : WorkGoesOn p s t) : WorkGoesOn p s (t.endIfInvalid b) := by
  unfold State.endIfInvalid
  split
  · exact h.endExchange
  · exact h

theorem WorkGoesOn.holdFrame {f : Frame} {b : Bool} (h : WorkGoesOn p s t) : WorkGoesOn p s (t.holdFrame f b) := by
  unfold State.holdFrame
  split
  · exact h.setFsm
  · exact h.countField

theorem WorkGoesOn.writePoll {e : Fin 32} {x : Option PollEntry} (h : WorkGoesOn p s t) :
    WorkGoesOn p s (t.writePoll e x) := by
  simp only [State.writePoll]
  split
  · exact h.setFsm.setEntry
  · exact h.setFsm.setEntry.reportChange
  · exact .ite h.setFsm.setEntry.reportChange h.setFsm.setEntry.reportChange

/-! ### The site link and the journal (chapters 1 and 10) -/

theorem WorkGoesOn.restartSilence (h : WorkGoesOn p s t) : WorkGoesOn p s t.restartSilence := h.setMgt

theorem WorkGoesOn.hearSite (h : WorkGoesOn p s t) : WorkGoesOn p s t.hearSite :=
  .ite h.restartSilence h.setMgt.raise.restartSilence

theorem WorkGoesOn.receiveSite {f : Frame} (h : WorkGoesOn p s t) : WorkGoesOn p s (t.receiveSite f) :=
  .ite h.setSpt h.countSite

theorem WorkGoesOn.answerUnserved {f : Frame} (h : WorkGoesOn p s t) : WorkGoesOn p s (t.answerUnserved f) := by
  unfold State.answerUnserved
  split
  · exact h
  · exact .ite h.claim.popSite.setSpt h

theorem WorkGoesOn.groupPending {v : Vector Bool 8} {g : Fin 8} (h : WorkGoesOn p s t) :
    WorkGoesOn p s (State.groupPending v t g) := .ite h.raise h

end Sys2Proof.Machine
end

section
/-! No command but the point's own settle and the resets touches an open transaction otherwise than R93 says. -/

namespace Sys2Proof.Machine

/-! ### The rules of requests (R173) -/

/-- No point is open in a bay that is not commissioned (R176). -/
def RestsUncommissioned (s : State) : Prop :=
  s.mgt.commission = .uncommissioned → ∀ p, (s.point p).state = .uncommissioned

theorem WorkReserved.restsUncommissioned {s : State} (h : WorkReserved s) : RestsUncommissioned s := by
  obtain ⟨-, -, -, -, rests, -⟩ := h
  exact fun hc => (rests hc).1

/-- Whatever becomes of a point in a bay that is not commissioned, nothing was open there. -/
theorem RestsUncommissioned.goesOn {s : State} (h : RestsUncommissioned s) (hc : s.commissioned = false) (p : Fin 8)
    (b : Point) : (s.point p).GoesOn b := by
  have uncommissioned : s.mgt.commission = .uncommissioned := by
    cases e : s.mgt.commission with
    | uncommissioned => rfl
    | commissioned => simp [State.commissioned, e] at hc
  exact .of_closed (congrArg PointState.isOpen (h uncommissioned p))

/-- Whatever the request, every open point goes on through the rule. -/
def RuleGoesOn (rule : Request → State → Reply) : Prop :=
  ∀ (p : Fin 8) (r : Request) (s : State), RestsUncommissioned s → (s.point p).GoesOn ((rule r s).state.point p)

/-- A rule that leaves the points as they are. -/
theorem RuleGoesOn.of_dpt {rule : Request → State → Reply} (h : ∀ r s, (rule r s).state.dpt = s.dpt) :
    RuleGoesOn rule := by
  intro p r s _
  have e : (rule r s).state.point p = s.point p := by simp only [State.point, h]
  exact e ▸ .refl _

theorem RuleGoesOn.of_work {rule : Request → State → Reply} (h : ∀ p r s, WorkGoesOn p s (rule r s).state) :
    RuleGoesOn rule := fun p r s _ => (h p r s).point

theorem RuleGoesOn.action {fits : List Byte → Bool} {rule : Request → State → Reply} (h : RuleGoesOn rule) :
    RuleGoesOn (action fits rule) := by
  intro p r s hs
  unfold Machine.action
  split
  · exact .refl _
  · split
    · exact h p r s hs
    · exact .refl _

theorem RuleGoesOn.table {fitsRead fitsWrite : List Byte → Bool} {read write : Request → State → Reply}
    (hr : RuleGoesOn read) (hw : RuleGoesOn write) : RuleGoesOn (table fitsRead fitsWrite read write) := by
  intro p r s hs
  unfold Machine.table
  split
  · split
    · exact hr p r s hs
    · exact .refl _
  · split
    · exact hw p r s hs
    · exact .refl _
  · exact .refl _

/-- A structural table is written only while no point is open (R173, R176). -/
theorem RuleGoesOn.structural {fitsRead fitsWrite : List Byte → Bool} {read write : Request → State → Reply}
    (hr : RuleGoesOn read) : RuleGoesOn (structural fitsRead fitsWrite read write) := by
  refine hr.table fun p r s hs => ?_
  split
  · exact .refl _
  next hc => exact hs.goesOn (by simpa using hc) p _

theorem RuleGoesOn.indexed {n : Nat} {rule : Fin n → Request → State → Reply} (h : ∀ i, RuleGoesOn (rule i)) :
    RuleGoesOn (indexed n rule) := by
  intro p r s hs
  unfold Machine.indexed
  split
  · exact .refl _
  · exact h _ p r s hs

theorem RuleGoesOn.runRule {rule : Fin 4 → Run → Request → State → Reply} (h : ∀ k x, RuleGoesOn (rule k x)) :
    RuleGoesOn (runRule rule) := by
  refine .indexed fun k p r s hs => ?_
  split
  · exact .refl _
  · split
    · exact .refl _
    · split
      · exact h _ _ p r s hs
      · exact .refl _

theorem RuleGoesOn.read {n : Nat} (data : Fin n → State → List Byte) :
    RuleGoesOn (Machine.indexed n (fun i _ s => s.ok (data i s))) := .indexed fun _ => .of_dpt fun _ _ => rfl

/-! ### The rules of the tables (section 12.4) -/

theorem pollWrite_goesOn (e : Fin 32) : RuleGoesOn (pollWrite e) := by
  refine .of_work fun p r s => ?_
  have h := WorkGoesOn.refl p s
  unfold pollWrite
  split
  · exact h
  · split
    · exact h
    · exact (h.only (keepUnused_only s e _)).writePoll.loanEval

theorem strapWrite_goesOn : RuleGoesOn strapWrite := by
  refine .of_dpt fun r s => ?_
  simp only [strapWrite, strapFirst, strapLater, strapTake, strapApply]
  repeat' split
  all_goals rfl

theorem strapRead_goesOn (k : Fin 8) : RuleGoesOn (strapRead k) := by
  refine .of_dpt fun r s => ?_
  unfold strapRead
  split <;> rfl

theorem accountsWrite_goesOn : RuleGoesOn accountsWrite := by
  refine .of_dpt fun r s => ?_
  simp only [accountsWrite, accountApply]
  repeat' split
  all_goals rfl

theorem accountsRead_goesOn (slot : Fin 1024) : RuleGoesOn (accountsRead slot) := by
  refine .of_dpt fun r s => ?_
  unfold accountsRead
  repeat' split
  all_goals rfl

theorem orderWrite_goesOn (o : Fin 16) : RuleGoesOn (orderWrite o) := by
  refine .of_dpt fun r s => ?_
  unfold orderWrite
  repeat' split
  all_goals rfl

theorem spillWrite_goesOn (i : Fin 8) : RuleGoesOn (spillWrite i) := by
  refine .of_work fun p r s => ?_
  have h := WorkGoesOn.refl p s
  unfold spillWrite
  split
  · exact h
  · exact h.setSpill.rejudgeSpill

theorem sumpWrite_goesOn (k : Fin 4) : RuleGoesOn (sumpWrite k) := by
  refine .of_work fun p r s => ?_
  have h := WorkGoesOn.refl p s
  unfold sumpWrite
  split
  · exact h
  · exact h.setSump.judgeSumpLevels.judgeSumpStale

theorem WorkGoesOn.paramWritten {p : Fin 8} {s t : State} {x : Param} (h : WorkGoesOn p s t) :
    WorkGoesOn p s (t.paramWritten x) := by
  unfold State.paramWritten
  split
  · exact h.loanEval
  · exact h.restartSilence
  · exact h

theorem paramWrite_goesOn : RuleGoesOn paramWrite := by
  refine .of_work fun p r s => ?_
  have h := WorkGoesOn.refl p s
  unfold paramWrite
  split
  · exact h
  · split
    · exact h
    · split
      · exact h
      · exact h.setMgt.paramWritten

theorem paramRead_goesOn : RuleGoesOn paramRead := by
  refine .of_dpt fun r s => ?_
  unfold paramRead
  split <;> rfl

theorem runsWrite_goesOn (k : Fin 4) : RuleGoesOn (runsWrite k) := by
  refine .of_dpt fun r s => ?_
  unfold runsWrite
  repeat' split
  all_goals rfl

theorem classifierWrite_goesOn (e : Fin 32) : RuleGoesOn (classifierWrite e) := by
  refine .of_dpt fun r s => ?_
  unfold classifierWrite
  split <;> rfl

theorem classWrite_goesOn (c : Fin 16) : RuleGoesOn (classWrite c) := by
  refine .of_dpt fun r s => ?_
  unfold classWrite
  split <;> rfl

theorem tableRule_goesOn : RuleGoesOn tableRule := by
  intro p r s hs
  generalize h : tableRule r = rule
  unfold tableRule at h
  split at h <;> subst h
  · exact RuleGoesOn.structural (.read _) p r s hs
  · exact RuleGoesOn.structural (.read _) p r s hs
  · exact RuleGoesOn.structural (.read _) p r s hs
  · exact RuleGoesOn.table (.read _) (.indexed classifierWrite_goesOn) p r s hs
  · exact RuleGoesOn.table (.read _) (.indexed classWrite_goesOn) p r s hs

/-! ### The rules of the actions (section 12.4) -/

theorem commission_goesOn : RuleGoesOn commission := by
  intro p r s hs
  unfold commission
  split
  · exact .refl _
  next hc => exact hs.goesOn (by simpa using hc) p _

/-- A bay with an open transaction refuses DECOMMISSION (R176). -/
theorem decommission_goesOn : RuleGoesOn decommission := by
  intro p r s _
  unfold decommission
  split
  · split
    · exact .refl _
    next hw =>
      have none_open : ∀ q ∈ all8, (s.point q).context.isSome = false := by
        simp only [State.workOpen, Bool.or_eq_true, not_or] at hw
        obtain ⟨⟨contexts, -⟩, -⟩ := hw
        simpa using contexts
      exact .of_noContext (by simpa using none_open p (mem_all8 p))
  · exact .refl _

theorem timeSet_goesOn : RuleGoesOn timeSet := .of_dpt fun _ _ => rfl

theorem shiftClose_goesOn : RuleGoesOn shiftClose := .of_dpt fun _ _ => rfl

theorem stockSet_goesOn (k : Fin 8) : RuleGoesOn (stockSet k) := by
  refine .of_work fun p r s => ?_
  have h := WorkGoesOn.refl p s
  simp only [stockSet]
  split
  · exact h
  · split
    · exact h.modTank.evalTank
    · exact h

theorem reconcile_goesOn (k : Fin 8) : RuleGoesOn (reconcile k) := by
  refine .of_dpt fun r s => ?_
  unfold reconcile
  split <;> rfl

theorem authoriseRule_goesOn (q : Fin 8) : RuleGoesOn (authoriseRule q) := by
  refine .of_work fun p r s => ?_
  unfold authoriseRule
  split
  · exact .refl p s
  · exact (WorkGoesOn.refl p s).authorise

theorem cancel_goesOn (q : Fin 8) : RuleGoesOn (cancel q) := by
  refine .of_work fun p r s => ?_
  have h := WorkGoesOn.refl p s
  unfold cancel
  split
  · exact h
  · exact h
  · exact h
  · exact h.toStopping

theorem pointEnable_goesOn (q : Fin 8) : RuleGoesOn (pointEnable q) := by
  refine .of_work fun p r s => ?_
  have h := WorkGoesOn.refl p s
  unfold pointEnable
  split
  · exact h
  next hd => exact h.enterState fun ho => by simp [hd, PointState.isOpen] at ho
  · exact h

theorem pointDisable_goesOn (q : Fin 8) : RuleGoesOn (pointDisable q) := by
  refine .of_work fun p r s => ?_
  have h := WorkGoesOn.refl p s
  unfold pointDisable
  split
  · exact h
  next hi => exact h.enterState fun ho => by simp [hi, PointState.isOpen] at ho
  · exact h
  · exact h

theorem runLoad_goesOn (k : Fin 4) : RuleGoesOn (runLoad k) := by
  refine .of_dpt fun r s => ?_
  unfold runLoad
  repeat' split
  all_goals rfl

theorem runAppend_goesOn (k : Fin 4) (x : Run) : RuleGoesOn (runAppend k x) := by
  refine .of_dpt fun r s => ?_
  unfold runAppend
  repeat' split
  all_goals rfl

theorem runClearPause_goesOn (k : Fin 4) (x : Run) : RuleGoesOn (runClearPause k x) := by
  refine .of_dpt fun r s => ?_
  unfold runClearPause
  repeat' split
  all_goals rfl

theorem runResume_goesOn (k : Fin 4) (x : Run) : RuleGoesOn (runResume k x) := by
  refine .of_work fun p r s => ?_
  have h := WorkGoesOn.refl p s
  unfold runResume
  split
  · exact h.resumeRun
  · exact h.setSlot
  · exact h

theorem runRetry_goesOn (k : Fin 4) (x : Run) : RuleGoesOn (runRetry k x) := by
  refine .of_work fun p r s => ?_
  unfold runRetry
  split
  · exact .refl p s
  · exact (WorkGoesOn.refl p s).offerStep

theorem runAbandon_goesOn (k : Fin 4) (x : Run) : RuleGoesOn (runAbandon k x) := by
  refine .of_work fun p r s => ?_
  unfold runAbandon
  split
  · exact (WorkGoesOn.refl p s).abandonRun
  · exact .refl p s

theorem journalRead_goesOn : RuleGoesOn journalRead := by
  refine .of_dpt fun r s => ?_
  unfold journalRead
  split <;> rfl

theorem journalRelease_goesOn : RuleGoesOn journalRelease := by
  refine .of_dpt fun r s => ?_
  simp only [journalRelease, State.reportRoom]
  split <;> rfl

theorem eventMask_goesOn : RuleGoesOn eventMask := by
  refine .of_work fun p r s => ?_
  unfold eventMask
  split
  · exact .refl p s
  · exact ((WorkGoesOn.refl p s).setJev (by exact .of_eq rfl rfl)).each fun _ _ h => h.groupPending

theorem eventPendingRead_goesOn : RuleGoesOn eventPendingRead := .of_dpt fun _ _ => rfl

theorem countersRead_goesOn : RuleGoesOn countersRead := by
  refine .of_work fun p r s => ?_
  have h := WorkGoesOn.refl p s
  unfold countersRead
  split <;> simp only [State.ok_state, State.no_state]
  · exact h.countSite
  · exact h.countField
  · exact h.each fun _ _ h => h.setChannel
  · exact h

theorem shutdownClear_goesOn : RuleGoesOn shutdownClear :=
  .of_work fun p _ s => (WorkGoesOn.refl p s).setSsd.raise.evalLevel

theorem siteStop_goesOn : RuleGoesOn siteStop := by
  refine .of_work fun p r s => ?_
  unfold siteStop
  split
  · exact .refl p s
  · exact (WorkGoesOn.refl p s).eventCause

theorem hornSilence_goesOn : RuleGoesOn hornSilence := by
  refine .of_dpt fun r s => ?_
  unfold hornSilence
  split <;> rfl

theorem proverArm_goesOn : RuleGoesOn proverArm := by
  refine .of_dpt fun r s => ?_
  unfold proverArm
  split <;> rfl

theorem proverRead_goesOn : RuleGoesOn proverRead := .of_dpt fun _ _ => rfl

theorem stationRearm_goesOn : RuleGoesOn stationRearm := by
  refine .of_work fun p r s => ?_
  have h := WorkGoesOn.refl p s
  unfold stationRearm
  split
  · exact h
  · split
    · exact h
    · exact h.setFsm.setEntry.loanEval

theorem accountFind_goesOn : RuleGoesOn accountFind := by
  refine .of_dpt fun r s => ?_
  unfold accountFind
  repeat' split
  all_goals rfl

theorem accountRemove_goesOn (slot : Fin 1024) : RuleGoesOn (accountRemove slot) := by
  refine .of_dpt fun r s => ?_
  unfold accountRemove
  repeat' split
  all_goals rfl

theorem softReset_goesOn : RuleGoesOn softReset := .of_dpt fun _ _ => rfl

theorem statusRead_goesOn : RuleGoesOn statusRead := .of_dpt fun _ _ => rfl

end Sys2Proof.Machine
end

section
/-! Every command but a point's own settle and the resets: an open transaction goes on (R93). -/

namespace Sys2Proof.Machine

/-- Where the command goes on to a next state, an open transaction at the point goes on. -/
def CommandGoesOn (p : Fin 8) (s : State) (x : Result) : Prop := ∀ t, x = .next t → (s.point p).GoesOn (t.point p)

variable {p : Fin 8} {s t : State}

theorem WorkGoesOn.next (h : WorkGoesOn p s t) : CommandGoesOn p s (.next t) := by
  rintro u ⟨⟩
  exact h.point

theorem WorkGoesOn.done (h : WorkGoesOn p s t) : CommandGoesOn p s t.done := h.reportLockouts.next

theorem RuleGoesOn.serve {objects : List Nat} {rule : Request → State → Reply} (h : RuleGoesOn rule)
    (hs : RestsUncommissioned s) (p : Fin 8) : (s.point p).GoesOn ((s.serve objects rule).point p) := by
  unfold State.serve
  split
  · exact .refl _
  next r _ =>
    have rests : RestsUncommissioned (s.claim .management).popSite := by
      unfold State.claim
      split <;> exact hs
    exact (WorkGoesOn.refl p s).claim.popSite.point.trans (h p r _ rests)

theorem RuleGoesOn.next {objects : List Nat} {rule : Request → State → Reply} (h : RuleGoesOn rule)
    (hs : RestsUncommissioned s) : CommandGoesOn p s (.next (s.serve objects rule)) := by
  rintro u ⟨⟩
  exact h.serve hs p

theorem RuleGoesOn.done {objects : List Nat} {rule : Request → State → Reply} (h : RuleGoesOn rule)
    (hs : RestsUncommissioned s) : CommandGoesOn p s (s.serve objects rule).done := by
  rintro u ⟨⟩
  exact (h.serve hs p).trans (WorkGoesOn.refl p _).reportLockouts.point

/-! ### The ports and the segment -/

theorem execSiteFrameEnd_goesOn (f : Frame) (e : Bool) : CommandGoesOn p s (execSiteFrameEnd f e s) := by
  have h := WorkGoesOn.refl p s
  unfold execSiteFrameEnd
  split
  · exact h.countSite.next
  · exact h.countSite.receiveSite.hearSite.next

theorem execSiteFrameRouted_goesOn : CommandGoesOn p s (execSiteFrameRouted s) := by
  have h := WorkGoesOn.refl p s
  unfold execSiteFrameRouted
  split
  · split
    · exact h.answerUnserved.next
    · split
      · exact h.popSite.next
      · exact h.popSite.classify.next
  · exact h.next

theorem execFieldFrameEnd_goesOn (f : Frame) (e : Bool) : CommandGoesOn p s (execFieldFrameEnd f e s) := by
  have h := WorkGoesOn.refl p s
  unfold execFieldFrameEnd
  split
  · exact h.next
  · dsimp only
    split
    · exact h.setFsm.countField.endIfInvalid.loanEval.next
    · exact h.setFsm.countField.setFsm.holdFrame.loanEval.next

theorem execFieldFrameTaken_goesOn : CommandGoesOn p s (execFieldFrameTaken s) := by
  have h := WorkGoesOn.refl p s
  unfold execFieldFrameTaken
  split
  · exact h.next
  · exact (WorkGoesOn.ite h.setFsm.snoop h.setFsm.judgeReply).loanEval.done

theorem execSiteFrameSent_goesOn : CommandGoesOn p s (execSiteFrameSent s) := by
  have h := WorkGoesOn.refl p s
  unfold execSiteFrameSent
  split
  · exact h.next
  · exact h.setSpt.setMgt.next

theorem execEventMoved_goesOn : CommandGoesOn p s (execEventMoved s) := by
  have h := WorkGoesOn.refl p s
  unfold execEventMoved
  split
  · exact h.next
  · split
    · exact (h.claim.setJev (by exact .of_eq rfl rfl)).setSpt.next
    · exact h.next

theorem execSegmentGrant_goesOn : CommandGoesOn p s (execSegmentGrant s) := by
  have h := WorkGoesOn.refl p s
  unfold execSegmentGrant
  split
  · split
    · split
      · exact h.setFsm.modPoll.next
      · exact h.setFsm.next
    · exact h.setFsm.next
    · exact h.setFsm.modPoll.next
    · exact h.next
  · exact h.next

theorem execForwardFrameSent_goesOn : CommandGoesOn p s (execForwardFrameSent s) := by
  have h := WorkGoesOn.refl p s
  unfold execForwardFrameSent
  split
  · exact h.setFsm.tryGrant.next
  · exact h.next

theorem execPollFrameSent_goesOn : CommandGoesOn p s (execPollFrameSent s) := by
  have h := WorkGoesOn.refl p s
  unfold execPollFrameSent
  split
  · split
    · exact h.setFsm.next
    · exact h.next
  · exact h.next

theorem execReplyWindowTimeout_goesOn : CommandGoesOn p s (execReplyWindowTimeout s) := by
  have h := WorkGoesOn.refl p s
  unfold execReplyWindowTimeout
  split
  · split
    · exact h.next
    · split
      · exact h.endExchange.loanEval.next
      · exact h.next
  · exact h.next

theorem execEntryDue_goesOn (e : Fin 32) : CommandGoesOn p s (execEntryDue e s) := by
  have h := WorkGoesOn.refl p s
  unfold execEntryDue
  split
  · exact h.next
  · split
    · exact h.setEntry.next
    · exact h.next

theorem execStationDataStale_goesOn (e : Fin 32) : CommandGoesOn p s (execStationDataStale e s) := by
  have h := WorkGoesOn.refl p s
  unfold execStationDataStale
  split
  · exact h.next
  · split
    · exact h.setEntry.reportStale.done
    · exact h.next

theorem execForwardFrameAged_goesOn : CommandGoesOn p s (execForwardFrameAged s) :=
  (WorkGoesOn.refl p s).setFsm.countField.next

theorem execFieldFrameStart_goesOn : CommandGoesOn p s (execFieldFrameStart s) := by
  have h := WorkGoesOn.refl p s
  unfold execFieldFrameStart
  split
  · exact h.next
  · exact h.setFsm.next

/-! ### Loans -/

theorem execLrqFall_goesOn : CommandGoesOn p s (execLrqFall s) := by
  have h := WorkGoesOn.refl p s
  simp only [execLrqFall]
  split
  · exact h.setFsm.next
  · exact h.setFsm.setFsm.next
  · exact h.setFsm.endLoan.next

theorem execLoanLimitReached_goesOn : CommandGoesOn p s (execLoanLimitReached s) := by
  have h := WorkGoesOn.refl p s
  simp only [execLoanLimitReached]
  split
  · exact h.raiseRecall.next
  · exact h.next

theorem execRecallAgeReached_goesOn (e : Fin 32) : CommandGoesOn p s (execRecallAgeReached e s) := by
  have h := WorkGoesOn.refl p s
  unfold execRecallAgeReached
  split
  · exact h.next
  · split
    · exact h.raiseRecall.next
    · exact h.next

theorem execRecallTimeout_goesOn : CommandGoesOn p s (execRecallTimeout s) := by
  have h := WorkGoesOn.refl p s
  unfold execRecallTimeout
  split
  · split
    · exact h.setFsm.raise.next
    · exact h.next
  · exact h.next

theorem execDeliveryAnswerSend_goesOn : CommandGoesOn p s (execDeliveryAnswerSend s) := by
  have h := WorkGoesOn.refl p s
  unfold execDeliveryAnswerSend
  split
  · split
    · exact h.setFsm.next
    · split
      · exact h.next
      · exact h.setFsm.next
  · exact h.next

/-! ### Meter channels -/

theorem execMeterCount_goesOn (c : Fin 8) (i : MeterInput) : CommandGoesOn p s (execMeterCount c i s) := by
  have h := WorkGoesOn.refl p s
  simp only [execMeterCount]
  split
  · exact h.setChannel.handCount.next
  · exact h.next

theorem execMeterPhaseError_goesOn (c : Fin 8) : CommandGoesOn p s (execMeterPhaseError c s) := by
  have h := WorkGoesOn.refl p s
  simp only [execMeterPhaseError]
  split
  · exact h.setChannel.contextPhaseError.next
  · exact h.next

theorem execRateWindowClose_goesOn (c : Fin 8) : CommandGoesOn p s (execRateWindowClose c s) := by
  have h := WorkGoesOn.refl p s
  unfold execRateWindowClose
  dsimp only
  split
  · exact (WorkGoesOn.ite h.setChannel.raise h.setChannel).pointWindow.done
  · exact h.next

theorem execCreepWindowBoundary_goesOn : CommandGoesOn p s (execCreepWindowBoundary s) := by
  have h := WorkGoesOn.refl p s
  unfold execCreepWindowBoundary
  split
  · exact (h.setMtc.each fun _ _ h => h.setChannel).next
  · exact h.next

theorem execFilteredLevelChange_goesOn (c : Fin 8) (i : MeterInput) :
    CommandGoesOn p s (execFilteredLevelChange c i s) := by
  have h := WorkGoesOn.refl p s
  simp only [execFilteredLevelChange]
  split
  · exact h.setChannel.next
  · exact h.next

theorem execProverEdge_goesOn : CommandGoesOn p s (execProverEdge s) := by
  have h := WorkGoesOn.refl p s
  simp only [execProverEdge]
  split
  · split
    · exact h.setMtc.next
    · unfold State.captureCount
      split
      · exact h.setMtc.setMtc.raise.next
      · exact h.setMtc.setMtc.next
  · exact h.next

theorem execProverRawInputChange_goesOn (x : ProverChange) : CommandGoesOn p s (execProverRawInputChange x s) := by
  have h := WorkGoesOn.refl p s
  cases x with
  | raw high => exact h.setMtc.next
  | filteredFall =>
    simp only [execProverRawInputChange]
    split
    · exact h.setMtc.next
    · exact h.next

/-! ### Timers, shutdown inputs and the clock -/

theorem execAuthTimerExpiry_goesOn (q : Fin 8) : CommandGoesOn p s (execAuthTimerExpiry q s) := by
  have h := WorkGoesOn.refl p s
  unfold execAuthTimerExpiry
  split
  · split
    · exact h.toStopping.next
    · exact h.next
  · exact h.next

/-- The settle of another point. -/
theorem execSettleEnd_goesOn {q : Fin 8} (hq : q ≠ p) : CommandGoesOn p s (execSettleEnd q s) := by
  have h := WorkGoesOn.refl p s
  unfold execSettleEnd
  split
  · split
    · exact (h.complete hq).done
    · exact h.next
  · exact h.next

theorem execPanelStatusTimer_goesOn (q : Fin 8) : CommandGoesOn p s (execPanelStatusTimer q s) := by
  have h := WorkGoesOn.refl p s
  unfold execPanelStatusTimer
  split
  · exact h.sendPanel.next
  · exact h.next

theorem execPumpRunSecond_goesOn (k : Fin 4) : CommandGoesOn p s (execPumpRunSecond k s) := by
  have h := WorkGoesOn.refl p s
  simp only [execPumpRunSecond]
  split
  · exact h.setPump.next
  · exact h.next

theorem execSuspendTimerExpiry_goesOn (k : Fin 4) : CommandGoesOn p s (execSuspendTimerExpiry k s) := by
  have h := WorkGoesOn.refl p s
  unfold execSuspendTimerExpiry
  split
  · exact h.next
  · split
    · split
      · exact h.abandonRun.next
      · exact h.next
    · exact h.next

theorem execSpillDebounceExpiry_goesOn (i : Fin 8) : CommandGoesOn p s (execSpillDebounceExpiry i s) := by
  have h := WorkGoesOn.refl p s
  simp only [execSpillDebounceExpiry]
  split
  · exact h.next
  · split
    · exact h.setSpillPresent.next
    · exact h.next

theorem execEstopTimerExpiry_goesOn (l : Fin 2) : CommandGoesOn p s (execEstopTimerExpiry l s) := by
  have h := WorkGoesOn.refl p s
  simp only [execEstopTimerExpiry]
  split
  · exact h.next
  · split
    · exact h.setLoop.conditionChange.next
    · exact h.next

theorem execHornPulseToggle_goesOn : CommandGoesOn p s (execHornPulseToggle s) := by
  have h := WorkGoesOn.refl p s
  unfold execHornPulseToggle
  split
  · exact h.setSsd.next
  · exact h.next

theorem execLinkSilenceExpiry_goesOn : CommandGoesOn p s (execLinkSilenceExpiry s) := by
  have h := WorkGoesOn.refl p s
  unfold execLinkSilenceExpiry
  split
  · exact h.next
  · split
    · exact h.setMgt.raise.next
    · exact h.next

theorem execWallClockTick_goesOn : CommandGoesOn p s (execWallClockTick s) := by
  have h := WorkGoesOn.refl p s
  unfold execWallClockTick
  split
  · exact h.setMgt.next
  · exact h.next

/-- No command but the point's own settle and the resets touches an open transaction otherwise than R93 says. -/
theorem exec_goesOn {c : Instr} (rests : RestsUncommissioned s) (settle : c ≠ .settleEnd p) (power : c ≠ .powerOn)
    (line : c ≠ .lineReset) (soft : ∀ d, c ≠ .softResetTaken d) : CommandGoesOn p s (exec c s) := by
  have h := WorkGoesOn.refl p s
  cases c with
  | siteFrameEnd f e => exact execSiteFrameEnd_goesOn f e
  | siteFrameRouted => exact execSiteFrameRouted_goesOn
  | fieldFrameEnd f e => exact execFieldFrameEnd_goesOn f e
  | fieldFrameTaken => exact execFieldFrameTaken_goesOn
  | siteFrameSent => exact execSiteFrameSent_goesOn
  | eventMoved => exact execEventMoved_goesOn
  | segmentGrant => exact execSegmentGrant_goesOn
  | forwardFrameSent => exact execForwardFrameSent_goesOn
  | pollFrameSent => exact execPollFrameSent_goesOn
  | replyWindowTimeout => exact execReplyWindowTimeout_goesOn
  | entryDue e => exact execEntryDue_goesOn e
  | stationDataStale e => exact execStationDataStale_goesOn e
  | forwardFrameAged => exact execForwardFrameAged_goesOn
  | lrqRise => exact h.setFsm.loanEval.next
  | lrqFall => exact execLrqFall_goesOn
  | loanLimitReached => exact execLoanLimitReached_goesOn
  | recallAgeReached e => exact execRecallAgeReached_goesOn e
  | recallTimeout => exact execRecallTimeout_goesOn
  | deliveryAnswerSend => exact execDeliveryAnswerSend_goesOn
  | meterCount c i => exact execMeterCount_goesOn c i
  | meterPhaseError c => exact execMeterPhaseError_goesOn c
  | rateWindowClose c => exact execRateWindowClose_goesOn c
  | creepWindowBoundary => exact execCreepWindowBoundary_goesOn
  | proverEdge => exact execProverEdge_goesOn
  | authTimerExpiry q => exact execAuthTimerExpiry_goesOn q
  | settleEnd q => exact execSettleEnd_goesOn fun e => settle (e ▸ rfl)
  | panelStatusTimer q => exact execPanelStatusTimer_goesOn q
  | pumpRunSecond k => exact execPumpRunSecond_goesOn k
  | suspendTimerExpiry k => exact execSuspendTimerExpiry_goesOn k
  | spillInputChange i high => exact h.setSpill.judgeSpill.next
  | spillDebounceExpiry i => exact execSpillDebounceExpiry_goesOn i
  | estopLoopChange l isOpen => exact h.setLoop.next
  | estopTimerExpiry l => exact execEstopTimerExpiry_goesOn l
  | hornPulseToggle => exact execHornPulseToggle_goesOn
  | linkSilenceExpiry => exact execLinkSilenceExpiry_goesOn
  | wallClockTick => exact execWallClockTick_goesOn
  | powerOn => exact absurd rfl power
  | lineReset => exact absurd rfl line
  | softResetTaken d => exact absurd rfl (soft d)
  | commission => exact commission_goesOn.action.next rests
  | decommission => exact decommission_goesOn.action.next rests
  | timeSet => exact timeSet_goesOn.action.next rests
  | shiftClose => exact shiftClose_goesOn.action.next rests
  | stockSet => exact (RuleGoesOn.indexed stockSet_goesOn).action.done rests
  | reconcile => exact (RuleGoesOn.indexed reconcile_goesOn).action.next rests
  | authorise => exact (RuleGoesOn.indexed authoriseRule_goesOn).action.next rests
  | cancel => exact (RuleGoesOn.indexed cancel_goesOn).action.next rests
  | pointEnable => exact (RuleGoesOn.indexed pointEnable_goesOn).action.next rests
  | pointDisable => exact (RuleGoesOn.indexed pointDisable_goesOn).action.next rests
  | runLoad => exact (RuleGoesOn.indexed runLoad_goesOn).action.next rests
  | runAppend => exact (RuleGoesOn.runRule runAppend_goesOn).action.next rests
  | runClearPause => exact (RuleGoesOn.runRule runClearPause_goesOn).action.next rests
  | runResume => exact (RuleGoesOn.runRule runResume_goesOn).action.next rests
  | runRetry => exact (RuleGoesOn.runRule runRetry_goesOn).action.next rests
  | runAbandon => exact (RuleGoesOn.runRule runAbandon_goesOn).action.next rests
  | journalRead => exact journalRead_goesOn.action.next rests
  | journalRelease => exact journalRelease_goesOn.action.next rests
  | eventMask => exact eventMask_goesOn.action.next rests
  | eventPendingRead => exact eventPendingRead_goesOn.action.next rests
  | countersRead => exact countersRead_goesOn.action.next rests
  | shutdownClear => exact shutdownClear_goesOn.action.next rests
  | siteStop => exact siteStop_goesOn.action.next rests
  | hornSilence => exact hornSilence_goesOn.action.next rests
  | proverArm => exact proverArm_goesOn.action.next rests
  | proverRead => exact proverRead_goesOn.action.next rests
  | stationRearm => exact stationRearm_goesOn.action.next rests
  | accountFind => exact accountFind_goesOn.action.next rests
  | accountRemove => exact (RuleGoesOn.indexed accountRemove_goesOn).action.next rests
  | softReset => exact softReset_goesOn.action.next rests
  | statusRead => exact statusRead_goesOn.action.next rests
  | pollListWrite => exact (RuleGoesOn.table (.read _) (.indexed pollWrite_goesOn)).done rests
  | productWrite => exact (RuleGoesOn.structural (.read _)).next rests
  | tankWrite => exact (RuleGoesOn.structural (.read _)).next rests
  | strappingWrite => exact (RuleGoesOn.table (.indexed strapRead_goesOn) strapWrite_goesOn).next rests
  | accountsWrite => exact (RuleGoesOn.table (.indexed accountsRead_goesOn) accountsWrite_goesOn).next rests
  | deliveryOrderWrite => exact (RuleGoesOn.table (.read _) (.indexed orderWrite_goesOn)).next rests
  | spillInputWrite => exact (RuleGoesOn.table (.read _) (.indexed spillWrite_goesOn)).next rests
  | sumpWrite => exact (RuleGoesOn.table (.read _) (.indexed sumpWrite_goesOn)).next rests
  | bayParameterWrite => exact (RuleGoesOn.table paramRead_goesOn paramWrite_goesOn).next rests
  | runsWrite => exact (RuleGoesOn.table (.read _) (.indexed runsWrite_goesOn)).next rests
  | tableWrite => exact tableRule_goesOn.next rests
  | fieldFrameStart => exact execFieldFrameStart_goesOn
  | meterRawInputChange c i high => exact h.setChannel.next
  | filteredLevelChange c i => exact execFilteredLevelChange_goesOn c i
  | proverRawInputChange x => exact execProverRawInputChange_goesOn x

end Sys2Proof.Machine
end

section
/-! A soft reset completes a context that is already STOPPING with the cause it has (R97), and what follows in the reset
keeps its record. -/

namespace Sys2Proof.Machine

variable {p : Fin 8} {s t : State}

/-! ### The record of a completion -/

/-- A record of the point numbered `n` or above carries the tag and the end cause of a context. -/
def Jev.RecordsEnd (j : Jev) (n : Nat) (p : Fin 8) (x : Context) : Prop :=
  ∃ r, Record.dispense r ∈ j.journal ∧ n ≤ r.number ∧ r.point = p ∧ r.tag = x.tag ∧ r.endCause = x.endCause

theorem Jev.RecordsEnd.grow {j k : Jev} {n : Nat} {x : Context} (h : j.RecordsEnd n p x) (g : j.GrowsTo k) :
    k.RecordsEnd n p x := by
  obtain ⟨r, hr, hx⟩ := h
  exact ⟨r, g.1 hr, hx⟩

theorem State.completeWork_recordsEnd {n : Nat} (s : State) (p : Fin 8) (k : PointConfig) (c : Context) (f : Figures)
    (hn : n ≤ s.jev.nextNumber) : (s.completeWork p k c f).jev.RecordsEnd n p c := by
  have settled : WorkGoesOn p s ((s.settleCommitment p k c f.net).reportOverrun p k c f.net) :=
    (WorkGoesOn.refl p s).settleCommitment.reportOverrun
  unfold State.completeWork
  generalize (s.settleCommitment p k c f.net).reportOverrun p k c f.net = u at settled
  have appended : (u.append (c.toRecord p k f u.stamp u.mgt.timeValid)).jev.RecordsEnd n p c :=
    ⟨_, List.mem_append_right _ (List.mem_singleton_self _), Nat.le_trans hn settled.jev.2, rfl, rfl, rfl⟩
  exact appended.grow (WorkGoesOn.refl p _).raise.accountCompletion.jev

theorem WorkGoesOn.stepEndAtReset {r : Option (Nat × Nat)} {c : Option EndCause} {n : Nat} (h : WorkGoesOn p s t) :
    WorkGoesOn p s (t.stepEndAtReset r c n) := by
  unfold State.stepEndAtReset
  split
  · exact h
  · split
    · exact h
    · split
      · exact h
      · exact .ite h.finishRun h.setSlot

theorem State.releasePoint_jev (s : State) (q : Fin 8) (c : Context) (n : Nat) : (s.releasePoint q c n).jev = s.jev :=
  (syncPumps_only _).2 .jev (by decide)

theorem WorkGoesOn.completeAtReset {q : Fin 8} (h : WorkGoesOn p s t) (hq : q ≠ p) :
    WorkGoesOn p s (t.completeAtReset q) := by
  simp only [State.completeAtReset]
  split
  · exact h.takeFigures.completeWork.stepEndAtReset.releasePoint hq
  · exact h.takeFigures

theorem State.completeAtReset_grows (s : State) (q : Fin 8) : s.jev.GrowsTo (s.completeAtReset q).jev := by
  simp only [State.completeAtReset]
  split
  · rw [State.releasePoint_jev]
    exact (WorkGoesOn.refl q s).takeFigures.completeWork.stepEndAtReset.jev
  · exact (WorkGoesOn.refl q s).takeFigures.jev

theorem each_completeAtReset_grows (l : List (Fin 8)) (s : State) :
    s.jev.GrowsTo (each l State.completeAtReset s).jev := by
  induction l generalizing s with
  | nil => exact .of_eq rfl rfl
  | cons q l ih => exact (s.completeAtReset_grows q).trans (ih _)

/-- A completion of the soft reset records the context that the point has. -/
theorem State.completeAtReset_recordsEnd {n : Nat} {x : Context} {k : PointConfig} (hx : (s.point p).context = some x)
    (hk : (s.point p).config = some k) (hn : n ≤ s.jev.nextNumber) : (s.completeAtReset p).jev.RecordsEnd n p x := by
  have taken : (s.takeFigures p).point p = { s.point p with context := some (x.flag (s.figures p x)) } := by
    rw [State.takeFigures, State.modContext_point_self, hx, Option.map_some]
  have recorded := (s.takeFigures p).completeWork_recordsEnd p k (x.flag (s.figures p x))
    ((s.takeFigures p).figures p (x.flag (s.figures p x))) (Nat.le_trans hn (WorkGoesOn.refl p s).takeFigures.jev.2)
  simp only [State.completeAtReset, taken, hk, State.releasePoint_jev]
  obtain ⟨r, hr, same⟩ := recorded.grow (WorkGoesOn.refl p _).stepEndAtReset.jev
  exact ⟨r, hr, same⟩

/-! ### The soft reset (R97, R179) -/

/-- A STOPPING point stands as it is while its work goes on. -/
theorem WorkGoesOn.of_stopping {x : Context} (h : WorkGoesOn p s t) (hx : (s.point p).context = some x)
    (hs : (s.point p).state = .stopping) : (t.point p).config = (s.point p).config ∧ (t.point p).state = .stopping ∧
      ∃ y, (t.point p).context = some y ∧ y.tag = x.tag ∧ y.endCause = x.endCause := by
  obtain ⟨hk, y, hy, ht, he⟩ := h.point x hx (by rw [hs]; rfl)
  rw [hs] at he
  obtain ⟨hb, hc⟩ := he.of_stopping
  exact ⟨hk, hb, y, hy, ht, hc⟩

/-- RESET is the end of running points only. -/
theorem WorkGoesOn.markResetEnds {x : Context} (hx : (s.point p).context = some x)
    (hs : (s.point p).state = .stopping) : WorkGoesOn p s s.markResetEnds := by
  refine (WorkGoesOn.refl p s).each fun u q hu => ?_
  split
  next hr =>
    have other : q ≠ p := by
      rintro rfl
      rw [(hu.of_stopping hx hs).2.1] at hr
      cases hr
    exact ⟨(u.modContext_point_ne _ other).symm ▸ hu.point, (modContext_only u q _).2 .jev (by decide) ▸ hu.jev⟩
  next => exact hu

theorem each_completeAtReset_recordsEnd {l : List (Fin 8)} {x : Context} (h : WorkGoesOn p s t) (hl : p ∈ l)
    (hx : (s.point p).context = some x) (hs : (s.point p).state = .stopping) (hk : (s.point p).config.isSome) :
    (each l State.completeAtReset t).jev.RecordsEnd s.jev.nextNumber p x := by
  induction l generalizing t with
  | nil => cases hl
  | cons q l ih =>
    by_cases hq : q = p
    · subst hq
      obtain ⟨k, hk⟩ := Option.isSome_iff_exists.1 hk
      obtain ⟨hc, -, y, hy, ht, he⟩ := h.of_stopping hx hs
      obtain ⟨r, hr, hn, hp, hrt, hre⟩ := State.completeAtReset_recordsEnd hy (hc.trans hk) h.jev.2
      exact Jev.RecordsEnd.grow ⟨r, hr, hn, hp, hrt.trans ht, hre.trans he⟩ (each_completeAtReset_grows l _)
    · exact ih (h.completeAtReset hq) ((List.mem_cons.1 hl).resolve_left (Ne.symm hq))

theorem WorkGoesOn.resetTanks (h : WorkGoesOn p s t) : WorkGoesOn p s t.resetTanks := by
  have temps : WorkGoesOn p s t.resetTemps := h.each fun _ _ h => h.modTank
  exact ((temps.each fun _ _ h => h.modTank).each fun _ _ h => h.settleTank).setTks

theorem WorkGoesOn.clearRefusals (h : WorkGoesOn p s t) : WorkGoesOn p s t.clearRefusals :=
  h.each fun _ _ h => h.setPoint (by exact .same rfl rfl rfl)

theorem WorkGoesOn.softResetBlocks {d : Nat} (h : WorkGoesOn p s t.endWork) :
    WorkGoesOn p s (t.softResetBlocks d) := by
  have cleared := h.resetTanks.clearRefusals
  unfold State.softResetBlocks
  dsimp only
  generalize t.endWork.resetTanks.clearRefusals = u at cleared
  exact (cleared.setFsm.setMtc.setSsd.setSpt.setJev (by exact .of_eq rfl rfl)).setMgt.setClock

theorem WorkGoesOn.resetPanels (h : WorkGoesOn p s t) : WorkGoesOn p s t.resetPanels :=
  h.each fun _ _ h => .ite h h.sendPanel

theorem WorkGoesOn.resetEvents {n : Fin 5} (h : WorkGoesOn p s t) : WorkGoesOn p s (t.resetEvents n) := by
  have judged := h.each (l := all4) (f := fun s k => (if n.val = k.val then s.raiseResetDone else s).judgeSumpStale k)
    fun _ _ h => (WorkGoesOn.ite h.raise h).judgeSumpStale
  exact .ite judged.raise judged

theorem WorkGoesOn.afterSoftReset (h : WorkGoesOn p s t) : WorkGoesOn p s t.afterSoftReset :=
  h.resetPanels.setChoices.resetEvents.loanEval

theorem softReset_recordsEnd {x : Context} (hx : (s.point p).context = some x) (hs : (s.point p).state = .stopping)
    (hk : (s.point p).config.isSome) (d : Nat) :
    (s.softResetBlocks d).afterSoftReset.jev.RecordsEnd s.jev.nextNumber p x := by
  have completed := each_completeAtReset_recordsEnd (l := all8) (WorkGoesOn.markResetEnds hx hs)
    (mem_all8 p) hx hs hk
  have ended : WorkGoesOn p (each all8 State.completeAtReset s.markResetEnds) s.endWork :=
    (WorkGoesOn.refl p _).endDeliveries.each fun _ _ h => h.modRun
  exact completed.grow ended.softResetBlocks.afterSoftReset.jev

end Sys2Proof.Machine
end

section
/-! The first end of a transaction stands (R93). -/

namespace Sys2Proof.Machine

/-- Settles O12: what every command leaves of an open transaction, and the record that a soft reset makes of one that is
already STOPPING. -/
theorem firstEndStands : Obligations.FirstEndStands := by
  refine ⟨fun c s t p x reserved settle power line soft hx ht => ?_, fun s t p x d reserved waiting hx hs ht => ?_⟩
  · have opened : (s.point p).state.isOpen = true := by
      obtain ⟨-, -, contexts_open, -⟩ := reserved
      rw [← contexts_open, hx, Option.isSome_some]
    obtain ⟨-, y, hy, -, step⟩ := exec_goesOn reserved.restsUncommissioned settle power line soft t ht x hx opened
    refine ⟨fun hs => ?_, fun hr => ⟨y, hy, step.of_running hr⟩⟩
    rw [hs] at step
    obtain ⟨stands, cause⟩ := step.of_stopping
    exact ⟨stands, y, hy, cause⟩
  · have configured : (s.point p).config.isSome := by
      obtain ⟨-, -, -, contexts_configured, -⟩ := reserved
      exact contexts_configured p (by simp [hx])
    have taken : exec (.softResetTaken d) s = .next (s.softResetBlocks d).afterSoftReset := if_pos waiting
    cases taken.symm.trans ht
    exact softReset_recordsEnd hx hs configured d

end Sys2Proof.Machine
end
